-- ==== Sys2Proof/Word.lean ====
section
/-! DEFINITION. The word types of the block: registers, command words, the status register, register indices. -/

namespace Sys2Proof

/-- The content of one general register: `XLEN = 128` bits, a pattern and not a number (R10, R21). -/
abbrev Word := BitVec 128

/-- One command word: 32 bits, one length only (R60). -/
abbrev CommandWord := BitVec 32

/-- The content of a control register; STATUS is the only one (R25). -/
abbrev StatusWord := BitVec 32

/-- A register index, `0 <= i <= 7`. There are exactly eight registers, so every value of a 3-bit register field
names one (R8, R21, R50); the type carries that fact, and no register number of an instruction can be ill-formed. -/
abbrev Reg := Fin 8

end Sys2Proof
end

