-- ==== Sys2Proof/Syntax.lean ====
section
/-! DEFINITION. The syntax of the command set: formats, command names, the raw fields of a word, the 99 commands. -/

namespace Sys2Proof

/-- The ten integer formats (R6, R63). -/
inductive IntFormat where
  | u8 | u16 | u32 | u64 | u128 | s8 | s16 | s32 | s64 | s128
  deriving DecidableEq, Repr

/-- The three IEEE-754 formats (R7, R63). -/
inductive FloatFormat where
  | f16 | f32 | f64
  deriving DecidableEq, Repr

/-- The thirteen operand types a command can have (R6, R7, R63). -/
inductive Format where
  | int (f : IntFormat)
  | float (f : FloatFormat)
  deriving DecidableEq, Repr

/-- The nine mnemonic stems (R62). -/
inductive Stem where
  | bitcount | revbits | ispow2 | log2floor | log2ceil | modmul | modpow | modpowm | modinv
  deriving DecidableEq, Repr

/-- The four shapes of the one word layout, which differ only in how many source fields are used (R61). -/
inductive Shape where
  | c2 | c3 | c4 | c5
  deriving DecidableEq, Repr

/-- The fields of a command word as they stand in it, legal or not (R61). -/
structure Fields where
  op : BitVec 4
  fmt : BitVec 4
  rd : BitVec 3
  rs1 : BitVec 3
  rs2 : BitVec 3
  rs3 : BitVec 3
  rs4 : BitVec 3
  m : BitVec 1
  zero : BitVec 8
  deriving DecidableEq, Repr

/-- A command taken apart: its name, its format and the register each field names. -/
structure Parts where
  stem : Stem
  fmt : Format
  rd : Reg
  rs1 : Reg
  rs2 : Reg
  rs3 : Reg
  rs4 : Reg
  deriving DecidableEq, Repr

/-- The commands: one constructor per row of `opcode_table.json` (R62 to R64), its operands in assembler order
(`rd`, then the sources, receiver first: R69, R70). -/
inductive Instr where
  -- `bitcount`
  | bitcountU8 (rd rs1 : Reg)
  | bitcountU16 (rd rs1 : Reg)
  | bitcountU32 (rd rs1 : Reg)
  | bitcountU64 (rd rs1 : Reg)
  | bitcountU128 (rd rs1 : Reg)
  | bitcountS8 (rd rs1 : Reg)
  | bitcountS16 (rd rs1 : Reg)
  | bitcountS32 (rd rs1 : Reg)
  | bitcountS64 (rd rs1 : Reg)
  | bitcountS128 (rd rs1 : Reg)
  -- `revbits`
  | revbitsU8 (rd rs1 : Reg)
  | revbitsU16 (rd rs1 : Reg)
  | revbitsU32 (rd rs1 : Reg)
  | revbitsU64 (rd rs1 : Reg)
  | revbitsU128 (rd rs1 : Reg)
  | revbitsS8 (rd rs1 : Reg)
  | revbitsS16 (rd rs1 : Reg)
  | revbitsS32 (rd rs1 : Reg)
  | revbitsS64 (rd rs1 : Reg)
  | revbitsS128 (rd rs1 : Reg)
  -- `ispow2`
  | ispow2U8 (rd rs1 : Reg)
  | ispow2U16 (rd rs1 : Reg)
  | ispow2U32 (rd rs1 : Reg)
  | ispow2U64 (rd rs1 : Reg)
  | ispow2U128 (rd rs1 : Reg)
  | ispow2F16 (rd rs1 : Reg)
  | ispow2F32 (rd rs1 : Reg)
  | ispow2F64 (rd rs1 : Reg)
  | ispow2S8 (rd rs1 : Reg)
  | ispow2S16 (rd rs1 : Reg)
  | ispow2S32 (rd rs1 : Reg)
  | ispow2S64 (rd rs1 : Reg)
  | ispow2S128 (rd rs1 : Reg)
  -- `log2floor`
  | log2floorU8 (rd rs1 : Reg)
  | log2floorU16 (rd rs1 : Reg)
  | log2floorU32 (rd rs1 : Reg)
  | log2floorU64 (rd rs1 : Reg)
  | log2floorU128 (rd rs1 : Reg)
  | log2floorF16 (rd rs1 : Reg)
  | log2floorF32 (rd rs1 : Reg)
  | log2floorF64 (rd rs1 : Reg)
  | log2floorS8 (rd rs1 : Reg)
  | log2floorS16 (rd rs1 : Reg)
  | log2floorS32 (rd rs1 : Reg)
  | log2floorS64 (rd rs1 : Reg)
  | log2floorS128 (rd rs1 : Reg)
  -- `log2ceil`
  | log2ceilU8 (rd rs1 : Reg)
  | log2ceilU16 (rd rs1 : Reg)
  | log2ceilU32 (rd rs1 : Reg)
  | log2ceilU64 (rd rs1 : Reg)
  | log2ceilU128 (rd rs1 : Reg)
  | log2ceilF16 (rd rs1 : Reg)
  | log2ceilF32 (rd rs1 : Reg)
  | log2ceilF64 (rd rs1 : Reg)
  | log2ceilS8 (rd rs1 : Reg)
  | log2ceilS16 (rd rs1 : Reg)
  | log2ceilS32 (rd rs1 : Reg)
  | log2ceilS64 (rd rs1 : Reg)
  | log2ceilS128 (rd rs1 : Reg)
  -- `modmul`
  | modmulU8 (rd rs1 rs2 rs3 : Reg)
  | modmulU16 (rd rs1 rs2 rs3 : Reg)
  | modmulU32 (rd rs1 rs2 rs3 : Reg)
  | modmulU64 (rd rs1 rs2 rs3 : Reg)
  | modmulU128 (rd rs1 rs2 rs3 : Reg)
  | modmulS8 (rd rs1 rs2 rs3 : Reg)
  | modmulS16 (rd rs1 rs2 rs3 : Reg)
  | modmulS32 (rd rs1 rs2 rs3 : Reg)
  | modmulS64 (rd rs1 rs2 rs3 : Reg)
  | modmulS128 (rd rs1 rs2 rs3 : Reg)
  -- `modpow`
  | modpowU8 (rd rs1 rs2 rs3 : Reg)
  | modpowU16 (rd rs1 rs2 rs3 : Reg)
  | modpowU32 (rd rs1 rs2 rs3 : Reg)
  | modpowU64 (rd rs1 rs2 rs3 : Reg)
  | modpowU128 (rd rs1 rs2 rs3 : Reg)
  | modpowS8 (rd rs1 rs2 rs3 : Reg)
  | modpowS16 (rd rs1 rs2 rs3 : Reg)
  | modpowS32 (rd rs1 rs2 rs3 : Reg)
  | modpowS64 (rd rs1 rs2 rs3 : Reg)
  | modpowS128 (rd rs1 rs2 rs3 : Reg)
  -- `modpowm`
  | modpowmU8 (rd rs1 rs2 rs3 rs4 : Reg)
  | modpowmU16 (rd rs1 rs2 rs3 rs4 : Reg)
  | modpowmU32 (rd rs1 rs2 rs3 rs4 : Reg)
  | modpowmU64 (rd rs1 rs2 rs3 rs4 : Reg)
  | modpowmU128 (rd rs1 rs2 rs3 rs4 : Reg)
  | modpowmS8 (rd rs1 rs2 rs3 rs4 : Reg)
  | modpowmS16 (rd rs1 rs2 rs3 rs4 : Reg)
  | modpowmS32 (rd rs1 rs2 rs3 rs4 : Reg)
  | modpowmS64 (rd rs1 rs2 rs3 rs4 : Reg)
  | modpowmS128 (rd rs1 rs2 rs3 rs4 : Reg)
  -- `modinv`
  | modinvU8 (rd rs1 rs2 : Reg)
  | modinvU16 (rd rs1 rs2 : Reg)
  | modinvU32 (rd rs1 rs2 : Reg)
  | modinvU64 (rd rs1 rs2 : Reg)
  | modinvU128 (rd rs1 rs2 : Reg)
  | modinvS8 (rd rs1 rs2 : Reg)
  | modinvS16 (rd rs1 rs2 : Reg)
  | modinvS32 (rd rs1 rs2 : Reg)
  | modinvS64 (rd rs1 rs2 : Reg)
  | modinvS128 (rd rs1 rs2 : Reg)
  deriving DecidableEq, Repr

end Sys2Proof
end

