-- ==== Sys2Proof/WellFormed.lean ====
section
/-! DEFINITION. Which command words are well-formed: the six clauses of R66, written as the rule writes them, on the
raw fields of a word and without the decoder.

An `Instr` needs no check of its own: a constructor is a legal pair of operation and format (R64), and a register
operand is a `Reg`, of which every value names a register (R21, R50). What can be ill-formed is a word. -/

namespace Sys2Proof

/-- Why a word is illegal: one name for each clause of R66. -/
inductive Reject where
  /-- (a) OP is a reserved operation code. -/
  | reservedOp
  /-- (b) FMT is a reserved format code. -/
  | reservedFmt
  /-- (c) a float format on an operation that takes integers only. -/
  | floatFormat
  /-- (d) one of bits 31:24 is not 0. -/
  | zeroField
  /-- (e) M = 1 with an OP other than 9. -/
  | multiplierBit
  /-- (f) a source field the shape does not use is not 0. -/
  | unusedField
  deriving DecidableEq, Repr

/-- R66 (a): OP = 0, 6, 7, 11, 12, 13, 14 or 15. -/
def Fields.clauseA (f : Fields) : Bool :=
  f.op == 0 || f.op == 6 || f.op == 7 || f.op == 11 || f.op == 12 || f.op == 13 || f.op == 14 || f.op == 15

/-- R66 (b): FMT = 13, 14 or 15. -/
def Fields.clauseB (f : Fields) : Bool :=
  f.fmt == 13 || f.fmt == 14 || f.fmt == 15

/-- R66 (c): FMT = 5, 6 or 7 with OP = 1, 2, 8, 9 or 10. -/
def Fields.clauseC (f : Fields) : Bool :=
  (f.fmt == 5 || f.fmt == 6 || f.fmt == 7) &&
    (f.op == 1 || f.op == 2 || f.op == 8 || f.op == 9 || f.op == 10)

/-- R66 (d): any of bits 31:24 not 0. -/
def Fields.clauseD (f : Fields) : Bool :=
  f.zero != 0

/-- R66 (e): M = 1 with OP not 9. -/
def Fields.clauseE (f : Fields) : Bool :=
  f.m == 1 && f.op != 9

/-- R66 (f): RS2, RS3 or RS4 not 0 for OP 1 to 5; RS3 or RS4 not 0 for OP 10; RS4 not 0 for OP 8; RS4 not 0 for OP 9
with M = 0. -/
def Fields.clauseF (f : Fields) : Bool :=
  ((f.op == 1 || f.op == 2 || f.op == 3 || f.op == 4 || f.op == 5) && (f.rs2 != 0 || f.rs3 != 0 || f.rs4 != 0)) ||
    (f.op == 10 && (f.rs3 != 0 || f.rs4 != 0)) ||
    (f.op == 8 && f.rs4 != 0) ||
    (f.op == 9 && f.m == 0 && f.rs4 != 0)

/-- A word with these fields is illegal: at least one clause of R66 holds. -/
def Fields.illegal (f : Fields) : Bool :=
  f.clauseA || f.clauseB || f.clauseC || f.clauseD || f.clauseE || f.clauseF

/-- The fields of a legal command word. -/
def Fields.wf (f : Fields) : Bool :=
  !f.illegal

end Sys2Proof
end

