-- ==== Sys2Proof/Decode.lean ====
section
/-! DEFINITION. The decoder, total on every 32-bit word and rejecting by name, and after it the encoder, both from the
tables of `30_encoding.md` (R60 to R66). The word is given by value: there is no fetch and no byte order (R49, R60). -/

namespace Sys2Proof

/-! ## The one layout of the word (R61) -/

/-- The fields of a word, by their bit positions (R61). -/
def fieldsOf (w : CommandWord) : Fields where
  op := w.extractLsb' 0 4
  fmt := w.extractLsb' 4 4
  rd := w.extractLsb' 8 3
  rs1 := w.extractLsb' 11 3
  rs2 := w.extractLsb' 14 3
  rs3 := w.extractLsb' 17 3
  rs4 := w.extractLsb' 20 3
  m := w.extractLsb' 23 1
  zero := w.extractLsb' 24 8

/-- The word with given fields: bits 31:24 first, OP last (R61). -/
def wordOf (f : Fields) : CommandWord :=
  f.zero ++ f.m ++ f.rs4 ++ f.rs3 ++ f.rs2 ++ f.rs1 ++ f.rd ++ f.fmt ++ f.op

/-! ## The code tables -/

/-- The OP code of a command (R62); `modpow` and `modpowm` share code 9. -/
def Stem.code : Stem → BitVec 4
  | .bitcount => 1
  | .revbits => 2
  | .ispow2 => 3
  | .log2floor => 4
  | .log2ceil => 5
  | .modmul => 8
  | .modpow => 9
  | .modpowm => 9
  | .modinv => 10

/-- The M bit of a command: set for `modpowm` only (R61, R62). -/
def Stem.mBit : Stem → BitVec 1
  | .modpowm => 1
  | _ => 0

/-- The shape of a command (R62). -/
def Stem.shape : Stem → Shape
  | .bitcount | .revbits | .ispow2 | .log2floor | .log2ceil => .c2
  | .modmul | .modpow => .c4
  | .modpowm => .c5
  | .modinv => .c3

/-- The command an OP code and an M bit name; 0, 6, 7 and 11 to 15 are reserved (R62). The M bit of a command other
than `modpow` is checked apart, against `Stem.mBit`. -/
def stemOf (op : BitVec 4) (m : BitVec 1) : Option Stem :=
  match op.toNat with
  | 1 => some .bitcount
  | 2 => some .revbits
  | 3 => some .ispow2
  | 4 => some .log2floor
  | 5 => some .log2ceil
  | 8 => some .modmul
  | 9 => if m = 1 then some .modpowm else some .modpow
  | 10 => some .modinv
  | _ => none

/-- The FMT code of a format (R63). -/
def Format.code : Format → BitVec 4
  | .int .u8 => 0
  | .int .u16 => 1
  | .int .u32 => 2
  | .int .u64 => 3
  | .int .u128 => 4
  | .float .f16 => 5
  | .float .f32 => 6
  | .float .f64 => 7
  | .int .s8 => 8
  | .int .s16 => 9
  | .int .s32 => 10
  | .int .s64 => 11
  | .int .s128 => 12

/-- The format an FMT code names; 13, 14 and 15 are reserved (R63). -/
def formatOf (code : BitVec 4) : Option Format :=
  match code.toNat with
  | 0 => some (.int .u8)
  | 1 => some (.int .u16)
  | 2 => some (.int .u32)
  | 3 => some (.int .u64)
  | 4 => some (.int .u128)
  | 5 => some (.float .f16)
  | 6 => some (.float .f32)
  | 7 => some (.float .f64)
  | 8 => some (.int .s8)
  | 9 => some (.int .s16)
  | 10 => some (.int .s32)
  | 11 => some (.int .s64)
  | 12 => some (.int .s128)
  | _ => none

/-- The source fields a shape does not use are 0 (R61). -/
def Shape.unusedZero (sh : Shape) (f : Fields) : Bool :=
  match sh with
  | .c2 => f.rs2 == 0 && f.rs3 == 0 && f.rs4 == 0
  | .c3 => f.rs3 == 0 && f.rs4 == 0
  | .c4 => f.rs4 == 0
  | .c5 => true

/-- The bits that do not vary in a shape (R61). -/
def Shape.mask : Shape → CommandWord
  | .c2 => 0xFFFFC0FF
  | .c3 => 0xFFFE00FF
  | .c4 => 0xFFF000FF
  | .c5 => 0xFF8000FF

/-- The mask of a row of the opcode table (R65). -/
def rowMask (stem : Stem) : CommandWord :=
  stem.shape.mask

/-- The match of a row of the opcode table: `op + 16*fmt`, plus `0x00800000` for shape C5 (R65). -/
def rowMatch (stem : Stem) (fmt : Format) : CommandWord :=
  BitVec.ofNat 32
    (stem.code.toNat + 16 * fmt.code.toNat + match stem.shape with | .c5 => 0x00800000 | _ => 0)

/-- Which formats each operation takes (R64): every operation the ten integer formats, `ispow2`, `log2floor` and
`log2ceil` the three float formats too. -/
def legalPair (stem : Stem) : Format → Bool
  | .int _ => true
  | .float _ =>
    match stem with
    | .ispow2 | .log2floor | .log2ceil => true
    | _ => false

/-! ## The commands of each operation -/

/-- The ten integer commands `bitcount.<fmt>` (R64). -/
def Instr.bitcountInt : IntFormat → Reg → Reg → Instr
  | .u8 => .bitcountU8
  | .u16 => .bitcountU16
  | .u32 => .bitcountU32
  | .u64 => .bitcountU64
  | .u128 => .bitcountU128
  | .s8 => .bitcountS8
  | .s16 => .bitcountS16
  | .s32 => .bitcountS32
  | .s64 => .bitcountS64
  | .s128 => .bitcountS128

/-- The ten integer commands `revbits.<fmt>` (R64). -/
def Instr.revbitsInt : IntFormat → Reg → Reg → Instr
  | .u8 => .revbitsU8
  | .u16 => .revbitsU16
  | .u32 => .revbitsU32
  | .u64 => .revbitsU64
  | .u128 => .revbitsU128
  | .s8 => .revbitsS8
  | .s16 => .revbitsS16
  | .s32 => .revbitsS32
  | .s64 => .revbitsS64
  | .s128 => .revbitsS128

/-- The ten integer commands `ispow2.<fmt>` (R64). -/
def Instr.ispow2Int : IntFormat → Reg → Reg → Instr
  | .u8 => .ispow2U8
  | .u16 => .ispow2U16
  | .u32 => .ispow2U32
  | .u64 => .ispow2U64
  | .u128 => .ispow2U128
  | .s8 => .ispow2S8
  | .s16 => .ispow2S16
  | .s32 => .ispow2S32
  | .s64 => .ispow2S64
  | .s128 => .ispow2S128

/-- The three float commands `ispow2.<fmt>` (R64). -/
def Instr.ispow2Float : FloatFormat → Reg → Reg → Instr
  | .f16 => .ispow2F16
  | .f32 => .ispow2F32
  | .f64 => .ispow2F64

/-- The ten integer commands `log2floor.<fmt>` (R64). -/
def Instr.log2floorInt : IntFormat → Reg → Reg → Instr
  | .u8 => .log2floorU8
  | .u16 => .log2floorU16
  | .u32 => .log2floorU32
  | .u64 => .log2floorU64
  | .u128 => .log2floorU128
  | .s8 => .log2floorS8
  | .s16 => .log2floorS16
  | .s32 => .log2floorS32
  | .s64 => .log2floorS64
  | .s128 => .log2floorS128

/-- The three float commands `log2floor.<fmt>` (R64). -/
def Instr.log2floorFloat : FloatFormat → Reg → Reg → Instr
  | .f16 => .log2floorF16
  | .f32 => .log2floorF32
  | .f64 => .log2floorF64

/-- The ten integer commands `log2ceil.<fmt>` (R64). -/
def Instr.log2ceilInt : IntFormat → Reg → Reg → Instr
  | .u8 => .log2ceilU8
  | .u16 => .log2ceilU16
  | .u32 => .log2ceilU32
  | .u64 => .log2ceilU64
  | .u128 => .log2ceilU128
  | .s8 => .log2ceilS8
  | .s16 => .log2ceilS16
  | .s32 => .log2ceilS32
  | .s64 => .log2ceilS64
  | .s128 => .log2ceilS128

/-- The three float commands `log2ceil.<fmt>` (R64). -/
def Instr.log2ceilFloat : FloatFormat → Reg → Reg → Instr
  | .f16 => .log2ceilF16
  | .f32 => .log2ceilF32
  | .f64 => .log2ceilF64

/-- The ten integer commands `modmul.<fmt>` (R64). -/
def Instr.modmulInt : IntFormat → Reg → Reg → Reg → Reg → Instr
  | .u8 => .modmulU8
  | .u16 => .modmulU16
  | .u32 => .modmulU32
  | .u64 => .modmulU64
  | .u128 => .modmulU128
  | .s8 => .modmulS8
  | .s16 => .modmulS16
  | .s32 => .modmulS32
  | .s64 => .modmulS64
  | .s128 => .modmulS128

/-- The ten integer commands `modpow.<fmt>` (R64). -/
def Instr.modpowInt : IntFormat → Reg → Reg → Reg → Reg → Instr
  | .u8 => .modpowU8
  | .u16 => .modpowU16
  | .u32 => .modpowU32
  | .u64 => .modpowU64
  | .u128 => .modpowU128
  | .s8 => .modpowS8
  | .s16 => .modpowS16
  | .s32 => .modpowS32
  | .s64 => .modpowS64
  | .s128 => .modpowS128

/-- The ten integer commands `modpowm.<fmt>` (R64). -/
def Instr.modpowmInt : IntFormat → Reg → Reg → Reg → Reg → Reg → Instr
  | .u8 => .modpowmU8
  | .u16 => .modpowmU16
  | .u32 => .modpowmU32
  | .u64 => .modpowmU64
  | .u128 => .modpowmU128
  | .s8 => .modpowmS8
  | .s16 => .modpowmS16
  | .s32 => .modpowmS32
  | .s64 => .modpowmS64
  | .s128 => .modpowmS128

/-- The ten integer commands `modinv.<fmt>` (R64). -/
def Instr.modinvInt : IntFormat → Reg → Reg → Reg → Instr
  | .u8 => .modinvU8
  | .u16 => .modinvU16
  | .u32 => .modinvU32
  | .u64 => .modinvU64
  | .u128 => .modinvU128
  | .s8 => .modinvS8
  | .s16 => .modinvS16
  | .s32 => .modinvS32
  | .s64 => .modinvS64
  | .s128 => .modinvS128

/-- The command with given parts: none for a float format on an operation that takes integers only (R64). The source
fields the shape does not use play no part. -/
def instrOf (p : Parts) : Option Instr :=
  match p.stem, p.fmt with
  | .bitcount, .int f => some (.bitcountInt f p.rd p.rs1)
  | .revbits, .int f => some (.revbitsInt f p.rd p.rs1)
  | .ispow2, .int f => some (.ispow2Int f p.rd p.rs1)
  | .ispow2, .float f => some (.ispow2Float f p.rd p.rs1)
  | .log2floor, .int f => some (.log2floorInt f p.rd p.rs1)
  | .log2floor, .float f => some (.log2floorFloat f p.rd p.rs1)
  | .log2ceil, .int f => some (.log2ceilInt f p.rd p.rs1)
  | .log2ceil, .float f => some (.log2ceilFloat f p.rd p.rs1)
  | .modmul, .int f => some (.modmulInt f p.rd p.rs1 p.rs2 p.rs3)
  | .modpow, .int f => some (.modpowInt f p.rd p.rs1 p.rs2 p.rs3)
  | .modpowm, .int f => some (.modpowmInt f p.rd p.rs1 p.rs2 p.rs3 p.rs4)
  | .modinv, .int f => some (.modinvInt f p.rd p.rs1 p.rs2)
  | .bitcount, .float _ => none
  | .revbits, .float _ => none
  | .modmul, .float _ => none
  | .modpow, .float _ => none
  | .modpowm, .float _ => none
  | .modinv, .float _ => none

/-! ## The decoder -/

/-- The command with given fields, or the clause of R66 that rules it out. Where several clauses hold one of them is
named; the outcome of an illegal word does not depend on which (log entry 9). -/
def decodeFields (f : Fields) : Except Reject Instr :=
  match stemOf f.op f.m with
  | none => .error .reservedOp
  | some stem =>
    match formatOf f.fmt with
    | none => .error .reservedFmt
    | some fmt =>
      if f.zero ≠ 0 then .error .zeroField
      else if f.m ≠ stem.mBit then .error .multiplierBit
      else if !stem.shape.unusedZero f then .error .unusedField
      else
        match instrOf ⟨stem, fmt, f.rd.toFin, f.rs1.toFin, f.rs2.toFin, f.rs3.toFin, f.rs4.toFin⟩ with
        | none => .error .floatFormat
        | some i => .ok i

/-- Decode one command word (R60, R65, R66). -/
def decode (w : CommandWord) : Except Reject Instr :=
  decodeFields (fieldsOf w)

/-- The instruction the decoder reads from an instruction of `nbits` bits whose value is `w`; the bits above `nbits`
are 0. A command is always 32 bits (R60). -/
def decodeTableWord (nbits w : Nat) : Option Instr :=
  match decode (BitVec.ofNat 32 (w % 2 ^ nbits)) with
  | .ok i => some i
  | .error _ => none

/-! ## The encoder -/

/-- The command, its format and its register fields; a field its shape does not use is 0 (R61). -/
def Instr.parts : Instr → Parts
  | .bitcountU8 rd rs1 => ⟨.bitcount, .int .u8, rd, rs1, 0, 0, 0⟩
  | .bitcountU16 rd rs1 => ⟨.bitcount, .int .u16, rd, rs1, 0, 0, 0⟩
  | .bitcountU32 rd rs1 => ⟨.bitcount, .int .u32, rd, rs1, 0, 0, 0⟩
  | .bitcountU64 rd rs1 => ⟨.bitcount, .int .u64, rd, rs1, 0, 0, 0⟩
  | .bitcountU128 rd rs1 => ⟨.bitcount, .int .u128, rd, rs1, 0, 0, 0⟩
  | .bitcountS8 rd rs1 => ⟨.bitcount, .int .s8, rd, rs1, 0, 0, 0⟩
  | .bitcountS16 rd rs1 => ⟨.bitcount, .int .s16, rd, rs1, 0, 0, 0⟩
  | .bitcountS32 rd rs1 => ⟨.bitcount, .int .s32, rd, rs1, 0, 0, 0⟩
  | .bitcountS64 rd rs1 => ⟨.bitcount, .int .s64, rd, rs1, 0, 0, 0⟩
  | .bitcountS128 rd rs1 => ⟨.bitcount, .int .s128, rd, rs1, 0, 0, 0⟩
  | .revbitsU8 rd rs1 => ⟨.revbits, .int .u8, rd, rs1, 0, 0, 0⟩
  | .revbitsU16 rd rs1 => ⟨.revbits, .int .u16, rd, rs1, 0, 0, 0⟩
  | .revbitsU32 rd rs1 => ⟨.revbits, .int .u32, rd, rs1, 0, 0, 0⟩
  | .revbitsU64 rd rs1 => ⟨.revbits, .int .u64, rd, rs1, 0, 0, 0⟩
  | .revbitsU128 rd rs1 => ⟨.revbits, .int .u128, rd, rs1, 0, 0, 0⟩
  | .revbitsS8 rd rs1 => ⟨.revbits, .int .s8, rd, rs1, 0, 0, 0⟩
  | .revbitsS16 rd rs1 => ⟨.revbits, .int .s16, rd, rs1, 0, 0, 0⟩
  | .revbitsS32 rd rs1 => ⟨.revbits, .int .s32, rd, rs1, 0, 0, 0⟩
  | .revbitsS64 rd rs1 => ⟨.revbits, .int .s64, rd, rs1, 0, 0, 0⟩
  | .revbitsS128 rd rs1 => ⟨.revbits, .int .s128, rd, rs1, 0, 0, 0⟩
  | .ispow2U8 rd rs1 => ⟨.ispow2, .int .u8, rd, rs1, 0, 0, 0⟩
  | .ispow2U16 rd rs1 => ⟨.ispow2, .int .u16, rd, rs1, 0, 0, 0⟩
  | .ispow2U32 rd rs1 => ⟨.ispow2, .int .u32, rd, rs1, 0, 0, 0⟩
  | .ispow2U64 rd rs1 => ⟨.ispow2, .int .u64, rd, rs1, 0, 0, 0⟩
  | .ispow2U128 rd rs1 => ⟨.ispow2, .int .u128, rd, rs1, 0, 0, 0⟩
  | .ispow2F16 rd rs1 => ⟨.ispow2, .float .f16, rd, rs1, 0, 0, 0⟩
  | .ispow2F32 rd rs1 => ⟨.ispow2, .float .f32, rd, rs1, 0, 0, 0⟩
  | .ispow2F64 rd rs1 => ⟨.ispow2, .float .f64, rd, rs1, 0, 0, 0⟩
  | .ispow2S8 rd rs1 => ⟨.ispow2, .int .s8, rd, rs1, 0, 0, 0⟩
  | .ispow2S16 rd rs1 => ⟨.ispow2, .int .s16, rd, rs1, 0, 0, 0⟩
  | .ispow2S32 rd rs1 => ⟨.ispow2, .int .s32, rd, rs1, 0, 0, 0⟩
  | .ispow2S64 rd rs1 => ⟨.ispow2, .int .s64, rd, rs1, 0, 0, 0⟩
  | .ispow2S128 rd rs1 => ⟨.ispow2, .int .s128, rd, rs1, 0, 0, 0⟩
  | .log2floorU8 rd rs1 => ⟨.log2floor, .int .u8, rd, rs1, 0, 0, 0⟩
  | .log2floorU16 rd rs1 => ⟨.log2floor, .int .u16, rd, rs1, 0, 0, 0⟩
  | .log2floorU32 rd rs1 => ⟨.log2floor, .int .u32, rd, rs1, 0, 0, 0⟩
  | .log2floorU64 rd rs1 => ⟨.log2floor, .int .u64, rd, rs1, 0, 0, 0⟩
  | .log2floorU128 rd rs1 => ⟨.log2floor, .int .u128, rd, rs1, 0, 0, 0⟩
  | .log2floorF16 rd rs1 => ⟨.log2floor, .float .f16, rd, rs1, 0, 0, 0⟩
  | .log2floorF32 rd rs1 => ⟨.log2floor, .float .f32, rd, rs1, 0, 0, 0⟩
  | .log2floorF64 rd rs1 => ⟨.log2floor, .float .f64, rd, rs1, 0, 0, 0⟩
  | .log2floorS8 rd rs1 => ⟨.log2floor, .int .s8, rd, rs1, 0, 0, 0⟩
  | .log2floorS16 rd rs1 => ⟨.log2floor, .int .s16, rd, rs1, 0, 0, 0⟩
  | .log2floorS32 rd rs1 => ⟨.log2floor, .int .s32, rd, rs1, 0, 0, 0⟩
  | .log2floorS64 rd rs1 => ⟨.log2floor, .int .s64, rd, rs1, 0, 0, 0⟩
  | .log2floorS128 rd rs1 => ⟨.log2floor, .int .s128, rd, rs1, 0, 0, 0⟩
  | .log2ceilU8 rd rs1 => ⟨.log2ceil, .int .u8, rd, rs1, 0, 0, 0⟩
  | .log2ceilU16 rd rs1 => ⟨.log2ceil, .int .u16, rd, rs1, 0, 0, 0⟩
  | .log2ceilU32 rd rs1 => ⟨.log2ceil, .int .u32, rd, rs1, 0, 0, 0⟩
  | .log2ceilU64 rd rs1 => ⟨.log2ceil, .int .u64, rd, rs1, 0, 0, 0⟩
  | .log2ceilU128 rd rs1 => ⟨.log2ceil, .int .u128, rd, rs1, 0, 0, 0⟩
  | .log2ceilF16 rd rs1 => ⟨.log2ceil, .float .f16, rd, rs1, 0, 0, 0⟩
  | .log2ceilF32 rd rs1 => ⟨.log2ceil, .float .f32, rd, rs1, 0, 0, 0⟩
  | .log2ceilF64 rd rs1 => ⟨.log2ceil, .float .f64, rd, rs1, 0, 0, 0⟩
  | .log2ceilS8 rd rs1 => ⟨.log2ceil, .int .s8, rd, rs1, 0, 0, 0⟩
  | .log2ceilS16 rd rs1 => ⟨.log2ceil, .int .s16, rd, rs1, 0, 0, 0⟩
  | .log2ceilS32 rd rs1 => ⟨.log2ceil, .int .s32, rd, rs1, 0, 0, 0⟩
  | .log2ceilS64 rd rs1 => ⟨.log2ceil, .int .s64, rd, rs1, 0, 0, 0⟩
  | .log2ceilS128 rd rs1 => ⟨.log2ceil, .int .s128, rd, rs1, 0, 0, 0⟩
  | .modmulU8 rd rs1 rs2 rs3 => ⟨.modmul, .int .u8, rd, rs1, rs2, rs3, 0⟩
  | .modmulU16 rd rs1 rs2 rs3 => ⟨.modmul, .int .u16, rd, rs1, rs2, rs3, 0⟩
  | .modmulU32 rd rs1 rs2 rs3 => ⟨.modmul, .int .u32, rd, rs1, rs2, rs3, 0⟩
  | .modmulU64 rd rs1 rs2 rs3 => ⟨.modmul, .int .u64, rd, rs1, rs2, rs3, 0⟩
  | .modmulU128 rd rs1 rs2 rs3 => ⟨.modmul, .int .u128, rd, rs1, rs2, rs3, 0⟩
  | .modmulS8 rd rs1 rs2 rs3 => ⟨.modmul, .int .s8, rd, rs1, rs2, rs3, 0⟩
  | .modmulS16 rd rs1 rs2 rs3 => ⟨.modmul, .int .s16, rd, rs1, rs2, rs3, 0⟩
  | .modmulS32 rd rs1 rs2 rs3 => ⟨.modmul, .int .s32, rd, rs1, rs2, rs3, 0⟩
  | .modmulS64 rd rs1 rs2 rs3 => ⟨.modmul, .int .s64, rd, rs1, rs2, rs3, 0⟩
  | .modmulS128 rd rs1 rs2 rs3 => ⟨.modmul, .int .s128, rd, rs1, rs2, rs3, 0⟩
  | .modpowU8 rd rs1 rs2 rs3 => ⟨.modpow, .int .u8, rd, rs1, rs2, rs3, 0⟩
  | .modpowU16 rd rs1 rs2 rs3 => ⟨.modpow, .int .u16, rd, rs1, rs2, rs3, 0⟩
  | .modpowU32 rd rs1 rs2 rs3 => ⟨.modpow, .int .u32, rd, rs1, rs2, rs3, 0⟩
  | .modpowU64 rd rs1 rs2 rs3 => ⟨.modpow, .int .u64, rd, rs1, rs2, rs3, 0⟩
  | .modpowU128 rd rs1 rs2 rs3 => ⟨.modpow, .int .u128, rd, rs1, rs2, rs3, 0⟩
  | .modpowS8 rd rs1 rs2 rs3 => ⟨.modpow, .int .s8, rd, rs1, rs2, rs3, 0⟩
  | .modpowS16 rd rs1 rs2 rs3 => ⟨.modpow, .int .s16, rd, rs1, rs2, rs3, 0⟩
  | .modpowS32 rd rs1 rs2 rs3 => ⟨.modpow, .int .s32, rd, rs1, rs2, rs3, 0⟩
  | .modpowS64 rd rs1 rs2 rs3 => ⟨.modpow, .int .s64, rd, rs1, rs2, rs3, 0⟩
  | .modpowS128 rd rs1 rs2 rs3 => ⟨.modpow, .int .s128, rd, rs1, rs2, rs3, 0⟩
  | .modpowmU8 rd rs1 rs2 rs3 rs4 => ⟨.modpowm, .int .u8, rd, rs1, rs2, rs3, rs4⟩
  | .modpowmU16 rd rs1 rs2 rs3 rs4 => ⟨.modpowm, .int .u16, rd, rs1, rs2, rs3, rs4⟩
  | .modpowmU32 rd rs1 rs2 rs3 rs4 => ⟨.modpowm, .int .u32, rd, rs1, rs2, rs3, rs4⟩
  | .modpowmU64 rd rs1 rs2 rs3 rs4 => ⟨.modpowm, .int .u64, rd, rs1, rs2, rs3, rs4⟩
  | .modpowmU128 rd rs1 rs2 rs3 rs4 => ⟨.modpowm, .int .u128, rd, rs1, rs2, rs3, rs4⟩
  | .modpowmS8 rd rs1 rs2 rs3 rs4 => ⟨.modpowm, .int .s8, rd, rs1, rs2, rs3, rs4⟩
  | .modpowmS16 rd rs1 rs2 rs3 rs4 => ⟨.modpowm, .int .s16, rd, rs1, rs2, rs3, rs4⟩
  | .modpowmS32 rd rs1 rs2 rs3 rs4 => ⟨.modpowm, .int .s32, rd, rs1, rs2, rs3, rs4⟩
  | .modpowmS64 rd rs1 rs2 rs3 rs4 => ⟨.modpowm, .int .s64, rd, rs1, rs2, rs3, rs4⟩
  | .modpowmS128 rd rs1 rs2 rs3 rs4 => ⟨.modpowm, .int .s128, rd, rs1, rs2, rs3, rs4⟩
  | .modinvU8 rd rs1 rs2 => ⟨.modinv, .int .u8, rd, rs1, rs2, 0, 0⟩
  | .modinvU16 rd rs1 rs2 => ⟨.modinv, .int .u16, rd, rs1, rs2, 0, 0⟩
  | .modinvU32 rd rs1 rs2 => ⟨.modinv, .int .u32, rd, rs1, rs2, 0, 0⟩
  | .modinvU64 rd rs1 rs2 => ⟨.modinv, .int .u64, rd, rs1, rs2, 0, 0⟩
  | .modinvU128 rd rs1 rs2 => ⟨.modinv, .int .u128, rd, rs1, rs2, 0, 0⟩
  | .modinvS8 rd rs1 rs2 => ⟨.modinv, .int .s8, rd, rs1, rs2, 0, 0⟩
  | .modinvS16 rd rs1 rs2 => ⟨.modinv, .int .s16, rd, rs1, rs2, 0, 0⟩
  | .modinvS32 rd rs1 rs2 => ⟨.modinv, .int .s32, rd, rs1, rs2, 0, 0⟩
  | .modinvS64 rd rs1 rs2 => ⟨.modinv, .int .s64, rd, rs1, rs2, 0, 0⟩
  | .modinvS128 rd rs1 rs2 => ⟨.modinv, .int .s128, rd, rs1, rs2, 0, 0⟩

/-- The operation of a command (R62). -/
def Instr.stem (i : Instr) : Stem := i.parts.stem

/-- The format of every operand of a command (R63). -/
def Instr.format (i : Instr) : Format := i.parts.fmt

/-- The destination register of a command (R61). -/
def Instr.rd (i : Instr) : Reg := i.parts.rd

/-- The registers a command reads: the fields its row uses and no others (R22, R61). -/
def Instr.sources (i : Instr) : List Reg :=
  match i.parts.stem.shape with
  | .c2 => [i.parts.rs1]
  | .c3 => [i.parts.rs1, i.parts.rs2]
  | .c4 => [i.parts.rs1, i.parts.rs2, i.parts.rs3]
  | .c5 => [i.parts.rs1, i.parts.rs2, i.parts.rs3, i.parts.rs4]

/-- The fields of a command (R61 to R63, R65). -/
def Parts.fields (p : Parts) : Fields where
  op := p.stem.code
  fmt := p.fmt.code
  rd := BitVec.ofFin p.rd
  rs1 := BitVec.ofFin p.rs1
  rs2 := BitVec.ofFin p.rs2
  rs3 := BitVec.ofFin p.rs3
  rs4 := BitVec.ofFin p.rs4
  m := p.stem.mBit
  zero := 0

/-- The word of a command (R65). -/
def encode (i : Instr) : CommandWord :=
  wordOf i.parts.fields

/-! ## Names -/

/-- The stem as the assembler writes it (R62, R70). -/
def Stem.name : Stem → String
  | .bitcount => "bitcount"
  | .revbits => "revbits"
  | .ispow2 => "ispow2"
  | .log2floor => "log2floor"
  | .log2ceil => "log2ceil"
  | .modmul => "modmul"
  | .modpow => "modpow"
  | .modpowm => "modpowm"
  | .modinv => "modinv"

/-- The format as the assembler writes it (R63, R70). -/
def Format.name : Format → String
  | .int .u8 => "u8"
  | .int .u16 => "u16"
  | .int .u32 => "u32"
  | .int .u64 => "u64"
  | .int .u128 => "u128"
  | .float .f16 => "f16"
  | .float .f32 => "f32"
  | .float .f64 => "f64"
  | .int .s8 => "s8"
  | .int .s16 => "s16"
  | .int .s32 => "s32"
  | .int .s64 => "s64"
  | .int .s128 => "s128"

/-- The mnemonic of the command's row in the opcode table: `<stem>.<fmt>` (R70). -/
def Instr.mnemonic (i : Instr) : String :=
  i.stem.name ++ "." ++ i.format.name

end Sys2Proof
end

