-- ==== Sys2Proof/Config.lean ====
section
/-! DEFINITION. What an implementation fixes and the one value the spec leaves open.

The implementation parameters of R8 have the spec's own values and stand where they are used: the formats in
`Machine/Operands.lean`, eight registers of 128 bits in `Word.lean`, the 32-bit logarithm image in
`Machine/Operands.lean`, `reduce = canonical` in `Machine/Operands.lean` (`cmod`), `modpow_min_exponent = exact` in
`Machine/Modpow.lean` (log entry 8). -/

namespace Sys2Proof

/-- What a register not written since the last Reset reads as: "unspecified bits each time" (R29, R44, U1). A FREE
VALUE of the number of the transaction that reads it and of the register's index: it has no body, so no proof can see
a value, and a claim about it is a claim for all `2^128` values (log entry 2). -/
opaque Config.unspecifiedReg : Nat → Reg → Word

end Sys2Proof
end

