-- ==== Sys2Proof/Machine/State.lean ====
section
/-! DEFINITION. The state of one NXU as plain data (R20), the host's transactions (R42), what they return, the
outcome codes (R200), and the state after Reset (R29). -/

namespace Sys2Proof.Machine

/-- The outcome codes of an Issue (R200). -/
inductive Code where
  | ok
  | eNonpos
  | eNonfinite
  | eNoinv
  | fDivzero
  | eIllegal
  | eHalted
  deriving DecidableEq, Repr

/-- The three domain errors (R201). -/
inductive DomainError where
  /-- "must be positive non-zero" -/
  | nonpos
  /-- "must be positive finite" -/
  | nonfinite
  /-- "no inverse exists" -/
  | noinv
  deriving DecidableEq, Repr

/-- How a command that was decoded ends, the three endings of R45: with a result for RD, with a domain error (`raise E`),
or with the fatal fault `F_DIVZERO` (`raise FATAL`) (R12, R203, R206). -/
inductive Ending where
  | ok (result : Word)
  | domain (e : DomainError)
  | fatal
  deriving DecidableEq, Repr

/-- What a transaction returns to the host (R43 to R47). -/
inductive Response where
  /-- ReadReg returns the 128 bits of a register (R44). -/
  | register (v : Word)
  /-- ReadCSR returns 32 bits (R47). -/
  | csr (v : StatusWord)
  /-- Issue returns an outcome code (R45, R200). -/
  | outcome (c : Code)
  deriving DecidableEq, Repr

/-- The five transactions of the host interface (R42). -/
inductive Txn where
  /-- R48, R230. -/
  | reset
  /-- R43. -/
  | writeReg (i : Reg) (v : Word)
  /-- R44. -/
  | readReg (i : Reg)
  /-- R47; any CSR number may be asked for (log entry 10). -/
  | readCsr (n : Nat)
  /-- R45. -/
  | issue (w : CommandWord)
  deriving DecidableEq, Repr

/-- The state of one NXU (R20), what its port shows, and the host's remaining transactions. -/
structure State where
  /-- `r0` to `r7` (R21). A register whose `written` bit is clear reads as a free value, not as what stands here. -/
  regs : Vector Word 8
  /-- Which registers have been written since the last Reset (R29, U1). -/
  written : Vector Bool 8
  /-- STATUS, CSR 0: CODE in bits 3:0, FAULT in bit 8 (R25). -/
  status : StatusWord
  /-- What the transaction performed last returned; nothing after Reset and WriteReg (R43 to R47). -/
  response : Option Response
  /-- The transactions the host has still to perform, in its order (R53, R72). The model's own field (log entry 4). -/
  script : List Txn
  /-- How many transactions have been performed: the counter free values are applied to. The model's own field (log
  entry 5). -/
  fresh : Nat
  deriving DecidableEq, Repr

/-- Why a step could stop with a fault: for no reason. Every failure the spec describes is an outcome code and a next
state (R200), the fatal fault and the halt included (R206, R207); so there is no constructor, and nobody raises one. -/
inductive Fault where
  deriving DecidableEq, Repr

/-- Why a step could be refused. -/
inductive Refusal where
  /-- An instruction that has no meaning in `exec` yet; raised by an arm of `exec` only. Safe: the run stops where the
  hardware goes on. No arm raises it: all 99 commands have their meaning. -/
  | notModelled (mnemonic : String)
  deriving DecidableEq, Repr

/-- The machine right after Reset (R29, R230): STATUS is 0, no register has been written, nothing has been returned, no
transaction is waiting. The registers' contents are unspecified (R29): the value 0 named here (log entry 1) is never
read, because `written` is clear. -/
def State.reset : State where
  regs := Vector.replicate 8 0
  written := Vector.replicate 8 false
  status := 0
  response := none
  script := []
  fresh := 0

end Sys2Proof.Machine
end

