-- ==== Sys2Proof/Machine/Flags.lean ====
section
/-! DEFINITION. The block has no flags (R27). What a command leaves behind besides RD is STATUS: the outcome codes and
the two fields of the status register (R25, R200). -/

namespace Sys2Proof.Machine

/-- The number of an outcome code (R200): 4 bits (R51). -/
def Code.number : Code → BitVec 4
  | .ok => 0
  | .eNonpos => 1
  | .eNonfinite => 2
  | .eNoinv => 3
  | .fDivzero => 4
  | .eIllegal => 5
  | .eHalted => 6

/-- The outcome code of a domain error (R200, R201). -/
def DomainError.code : DomainError → Code
  | .nonpos => .eNonpos
  | .nonfinite => .eNonfinite
  | .noinv => .eNoinv

/-- The outcome code a command's ending reports (R45). -/
def Ending.code : Ending → Code
  | .ok _ => .ok
  | .domain e => e.code
  | .fatal => .fDivzero

/-- STATUS.CODE, bits 3:0 (R25). -/
def codeField (st : StatusWord) : BitVec 4 :=
  st.extractLsb' 0 4

/-- STATUS.FAULT, bit 8 (R25). -/
def faultField (st : StatusWord) : Bool :=
  st.getLsbD 8

/-- `STATUS.CODE <- c` (R12): the other bits stay. -/
def setCodeField (st : StatusWord) (c : BitVec 4) : StatusWord :=
  st.extractLsb' 4 28 ++ c

/-- `STATUS.FAULT <- 1` (R12, R206): the other bits stay. -/
def setFaultField (st : StatusWord) : StatusWord :=
  st.extractLsb' 9 23 ++ (1 : BitVec 1) ++ st.extractLsb' 0 8

end Sys2Proof.Machine
end

