-- ==== Sys2Proof/Machine/Operands.lean ====
section
/-! DEFINITION. How a command reads an operand and forms a result: the formats' constants (R6, R7), patterns and values
(R10), result shapes (R24), the integer functions of the rules (R13, R123, R140, R142), the IEEE-754 decomposer (R120
to R122). -/

namespace Sys2Proof

/-- `W(F)` of an integer format (R6, R63). -/
def IntFormat.width : IntFormat → Nat
  | .u8 | .s8 => 8
  | .u16 | .s16 => 16
  | .u32 | .s32 => 32
  | .u64 | .s64 => 64
  | .u128 | .s128 => 128

/-- `signed(F)` (R6, R63). -/
def IntFormat.signed : IntFormat → Bool
  | .u8 | .u16 | .u32 | .u64 | .u128 => false
  | .s8 | .s16 | .s32 | .s64 | .s128 => true

/-- `W(F)` of a float format (R7). -/
def FloatFormat.width : FloatFormat → Nat
  | .f16 => 16
  | .f32 => 32
  | .f64 => 64

/-- `EB`, the number of exponent bits (R7). -/
def FloatFormat.eb : FloatFormat → Nat
  | .f16 => 5
  | .f32 => 8
  | .f64 => 11

/-- `MB`, the number of mantissa bits (R7). -/
def FloatFormat.mb : FloatFormat → Nat
  | .f16 => 10
  | .f32 => 23
  | .f64 => 52

/-- The bias (R7). -/
def FloatFormat.bias : FloatFormat → Nat
  | .f16 => 15
  | .f32 => 127
  | .f64 => 1023

/-- `EMAX = 2^EB - 1`, the all-ones exponent field (R120, R122). -/
def FloatFormat.emax (F : FloatFormat) : Nat :=
  2 ^ F.eb - 1

/-- `W(F)` of any format (R63). -/
def Format.width : Format → Nat
  | .int f => f.width
  | .float f => f.width

end Sys2Proof

namespace Sys2Proof.Machine

/-! ## Patterns and values (R10, R11, R22) -/

/-- `pat_F(p)` for a format of width `W`: the low `W` bits of a register; the bits above are ignored (R10, R22). -/
def pat (W : Nat) (p : Word) : BitVec W :=
  p.setWidth W

/-- `val_F(p)` of an integer format: the pattern as an unsigned or a two's complement number (R10). -/
def value (F : IntFormat) (p : Word) : Int :=
  if F.signed then (pat F.width p).toInt else (pat F.width p).toNat

/-- `enc_W(n)`: the `W`-bit pattern `n mod 2^W` (R11). -/
def enc (W : Nat) (n : Int) : BitVec W :=
  BitVec.ofInt W n

/-! ## The three shapes of a result (R24) -/

/-- (a) A pattern result: `zext_128` of the `W`-bit pattern, in signed formats too. -/
def patternResult {W : Nat} (p : BitVec W) : Word :=
  p.setWidth 128

/-- (b) A boolean result: 1 or 0 as a 128-bit value. -/
def booleanResult (b : Bool) : Word :=
  if b then 1 else 0

/-- (c) A logarithm result: `sext_128(enc_32(n))`; `LOGW = 32` (R8). -/
def logResult (n : Int) : Word :=
  (enc 32 n).signExtend 128

/-! ## Integer functions of the rules -/

/-- `cmod(x, M)` for `M > 0`: the value in `0 .. M-1` congruent to `x` (R13). It is the reduction of every ModArith
command (R170): the parameter `reduce` at its value `canonical` (log entry 8). -/
def cmod (x : Int) (M : Nat) : Int :=
  x % (M : Int)

/-- `bitlen(n)`: the number of bits of `n` written without leading zeros, 0 for `n = 0` (R13). -/
def bitlen (n : Nat) : Nat :=
  if n = 0 then 0 else n.log2 + 1

/-- `popcount(p)`: the number of bits of a pattern that are 1 (R13). -/
def popcount {W : Nat} (p : BitVec W) : Nat :=
  (List.range W).countP fun i => p.getLsbD i

/-- `ilog2floor(n)` for `n > 0`: the index of the highest 1 bit (R142). -/
def ilog2floor (n : Nat) : Nat :=
  bitlen n - 1

/-- `ilog2ceil(n)` for `n > 0`: 0 for `n = 1`, else `bitlen(n-1)` (R142). -/
def ilog2ceil (n : Nat) : Nat :=
  if n = 1 then 0 else bitlen (n - 1)

/-- `onebit(n)`: `n > 0` and `(n AND (n-1)) = 0`, the `n > 0` test first (R123). -/
def onebit (n : Nat) : Bool :=
  if n = 0 then false else n &&& (n - 1) == 0

/-- The number of 0 bits met in bits `k-1`, `k-2`, ... of a pattern before the first 1 bit; `k` when there is none. -/
def leadingZeros {W : Nat} (p : BitVec W) : Nat → Nat
  | 0 => 0
  | k + 1 => if p.getLsbD k then 0 else leadingZeros p k + 1

/-- `clz_W(p)`: the number of 0 bits above the highest 1 bit, `W` for the zero pattern (R140). -/
def clz {W : Nat} (p : BitVec W) : Nat :=
  leadingZeros p W

/-! ## The IEEE-754 decomposer -/

/-- The sign, exponent field and mantissa field of a float's pattern, the fields as unsigned numbers (R121). -/
structure FloatParts where
  s : Bool
  e : Nat
  m : Nat
  deriving DecidableEq, Repr

/-- The decomposition of a register content in a float format (R121), the sign in the top bit, the exponent field below
it, the mantissa field in the low bits (R120; PRESUMED by the spec, log entry 7). -/
def decompose (F : FloatFormat) (p : Word) : FloatParts where
  s := (pat F.width p).getLsbD (F.width - 1)
  e := ((pat F.width p).extractLsb' F.mb F.eb).toNat
  m := ((pat F.width p).extractLsb' 0 F.mb).toNat

/-- The five classes of a float's pattern (R122). -/
inductive FloatClass where
  | zero | subnormal | normal | infinity | nan
  deriving DecidableEq, Repr

/-- The class of a decomposed pattern (R122; the split of the all-ones exponent is PRESUMED by the spec, log entry 7). -/
def classify (F : FloatFormat) (d : FloatParts) : FloatClass :=
  if d.e = 0 then (if d.m = 0 then .zero else .subnormal)
  else if d.e = F.emax then (if d.m = 0 then .infinity else .nan)
  else .normal

/-- The real number a finite pattern stands for (R122); no command computes it, the logarithm rules are checked against
it. It means nothing for an infinity or a NaN. -/
def realValue (F : FloatFormat) (d : FloatParts) : ℚ :=
  (if d.s then -1 else 1) *
    (if d.e = 0 then (d.m : ℚ) * 2 ^ (1 - (F.bias : Int) - F.mb)
     else ((2 : ℚ) ^ F.mb + d.m) * 2 ^ ((d.e : Int) - F.bias - F.mb))

end Sys2Proof.Machine
end

