-- ==== Sys2Proof/Machine/Ops.lean ====
section
/-! DEFINITION. The named operations over the state: reading and writing a register, STATUS, ending a command (taking an
outcome, R203 and R206), the four transactions other than Issue. -/

namespace Sys2Proof.Machine

/-! ## Registers -/

/-- `r[i]` as a command or a ReadReg reads it: what was written since the last Reset, else unspecified bits, a free value
of this transaction and this register (R22, R29, R44, U1). -/
def State.operand (s : State) (i : Reg) : Word :=
  if s.written[i] then s.regs[i] else Config.unspecifiedReg s.fresh i

/-- `r[i] <- v`: all 128 bits; the register is written from now on (R12, R24, R29). -/
def State.setReg (s : State) (i : Reg) (v : Word) : State :=
  { s with regs := s.regs.set i v, written := s.written.set i true }

/-! ## STATUS and the response -/

/-- STATUS.FAULT: the block is halted while it is 1 (R25, R26). -/
def State.halted (s : State) : Bool :=
  faultField s.status

/-- STATUS.CODE (R25). -/
def State.code (s : State) : BitVec 4 :=
  codeField s.status

/-- `STATUS.CODE <- c` (R12). -/
def State.setCode (s : State) (c : Code) : State :=
  { s with status := setCodeField s.status c.number }

/-- `STATUS.FAULT <- 1` (R12). -/
def State.latchFault (s : State) : State :=
  { s with status := setFaultField s.status }

/-- What the transaction returns to the host. -/
def State.respond (s : State) (r : Option Response) : State :=
  { s with response := r }

/-! ## Ending a command -/

/-- `complete(c)`: `STATUS.CODE <- c` and `c` is the response of the Issue (R12, R45). -/
def State.complete (s : State) (c : Code) : State :=
  (s.setCode c).respond (some (.outcome c))

/-- `raise E(c)`: no register is written, FAULT stays, the block is ready (R12, R203). -/
def State.raiseError (s : State) (c : Code) : State :=
  s.complete c

/-- `raise FATAL(F_DIVZERO)`: no register is written, the FAULT latch is set, the block is halted (R12, R206). -/
def State.raiseFatal (s : State) : State :=
  s.latchFault.complete .fDivzero

/-- Ending OK: the whole of RD is written once, as the last act (R24, R45). -/
def State.finishOk (s : State) (rd : Reg) (v : Word) : State :=
  (s.setReg rd v).complete .ok

/-- The end of a command, in one of the three ways of R45. This is the whole of taking an exception (R210). -/
def State.finish (s : State) (rd : Reg) : Ending → State
  | .ok v => s.finishOk rd v
  | .domain e => s.raiseError e.code
  | .fatal => s.raiseFatal

/-! ## Running a command of each shape: all sources are read once, before anything is written (R22) -/

/-- A command of shape C2: one source. -/
def runC2 (f : Word → Ending) (rd rs1 : Reg) (s : State) : Host.Outcome State Fault Refusal :=
  .next (s.finish rd (f (s.operand rs1)))

/-- A command of shape C3: two sources. -/
def runC3 (f : Word → Word → Ending) (rd rs1 rs2 : Reg) (s : State) : Host.Outcome State Fault Refusal :=
  .next (s.finish rd (f (s.operand rs1) (s.operand rs2)))

/-- A command of shape C4: three sources. -/
def runC4 (f : Word → Word → Word → Ending) (rd rs1 rs2 rs3 : Reg) (s : State) : Host.Outcome State Fault Refusal :=
  .next (s.finish rd (f (s.operand rs1) (s.operand rs2) (s.operand rs3)))

/-- A command of shape C5: four sources. -/
def runC5 (f : Word → Word → Word → Word → Ending) (rd rs1 rs2 rs3 rs4 : Reg) (s : State) :
    Host.Outcome State Fault Refusal :=
  .next (s.finish rd (f (s.operand rs1) (s.operand rs2) (s.operand rs3) (s.operand rs4)))

/-! ## The transactions other than Issue -/

/-- `Reset` (R48, R230): STATUS to 0, every register unspecified; it returns nothing. -/
def State.resetTxn (s : State) : State :=
  { s with
    regs := State.reset.regs
    written := State.reset.written
    status := State.reset.status
    response := none }

/-- `WriteReg(i, v)` (R43): performed whether or not the block is halted; it returns nothing. -/
def State.writeRegTxn (s : State) (i : Reg) (v : Word) : State :=
  (s.setReg i v).respond none

/-- `ReadReg(i)` (R44): it returns `r[i]` and changes no state. -/
def State.readRegTxn (s : State) (i : Reg) : State :=
  s.respond (some (.register (s.operand i)))

/-- What CSR number `n` reads as: STATUS for 0, the value 0 for any other number (R47). -/
def State.csr (s : State) (n : Nat) : StatusWord :=
  if n = 0 then s.status else 0

/-- `ReadCSR(n)` (R47): it changes no state. -/
def State.readCsrTxn (s : State) (n : Nat) : State :=
  s.respond (some (.csr (s.csr n)))

/-- Issue of a word the block does not decode: illegal, or any word while halted; see `issue`. The refusal while halted
changes nothing and returns E_HALTED (R26, R207). -/
def State.refuseHalted (s : State) : State :=
  s.respond (some (.outcome .eHalted))

/-- The state in which the first transaction of the script is performed: it is taken off the script, and the counter of
transactions advances. -/
def State.take (s : State) (rest : List Txn) : State :=
  { s with script := rest, fresh := s.fresh + 1 }

end Sys2Proof.Machine
end

