-- ==== Sys2Proof/Machine/Bitcount.lean ====
section
/-! DEFINITION. The cascade of masks (R100, R101) and BITCOUNT in the ten integer formats (R102). -/

namespace Sys2Proof.Machine

/-- The stages `N = 1, 2, 4, ..., W/2` of a width (R100). -/
def stages (W : Nat) : List Nat :=
  (List.range W.log2).map fun k => 2 ^ k

/-- Bits `k-1` to 0 of a stage's mask: bit `i` is 1 exactly when `(i mod 2N) < N` (R100). -/
def maskBits (N : Nat) : Nat → Nat
  | 0 => 0
  | i + 1 => maskBits N i + if i % (2 * N) < N then 2 ^ i else 0

/-- `mask(W, N)`: the low half of every `2N`-bit group (R100, R101). -/
def mask (W N : Nat) : BitVec W :=
  BitVec.ofNat W (maskBits N W)

/-- One level of the popcount tree: adjacent `N`-bit group sums are added into `2N`-bit group sums (R102). -/
def popStage {W : Nat} (x : BitVec W) (N : Nat) : BitVec W :=
  (x &&& mask W N) + ((x >>> N) &&& mask W N)

/-- The popcount tree: all levels, from `N = 1` up (R102). -/
def popTree {W : Nat} (x : BitVec W) : BitVec W :=
  (stages W).foldl popStage x

/-- BITCOUNT: the count of set bits of the pattern, in signed formats too (R102). Total, no error. -/
def bitcount (F : IntFormat) (a : Word) : Ending :=
  .ok (patternResult (popTree (pat F.width a)))

/-- `bitcount.u8` (R102). -/
def execBitcountU8 (rd rs1 : Reg) (s : State) : Host.Outcome State Fault Refusal :=
  runC2 (bitcount .u8) rd rs1 s

/-- `bitcount.u16` (R102). -/
def execBitcountU16 (rd rs1 : Reg) (s : State) : Host.Outcome State Fault Refusal :=
  runC2 (bitcount .u16) rd rs1 s

/-- `bitcount.u32` (R102). -/
def execBitcountU32 (rd rs1 : Reg) (s : State) : Host.Outcome State Fault Refusal :=
  runC2 (bitcount .u32) rd rs1 s

/-- `bitcount.u64` (R102). -/
def execBitcountU64 (rd rs1 : Reg) (s : State) : Host.Outcome State Fault Refusal :=
  runC2 (bitcount .u64) rd rs1 s

/-- `bitcount.u128` (R102). -/
def execBitcountU128 (rd rs1 : Reg) (s : State) : Host.Outcome State Fault Refusal :=
  runC2 (bitcount .u128) rd rs1 s

/-- `bitcount.s8` (R102). -/
def execBitcountS8 (rd rs1 : Reg) (s : State) : Host.Outcome State Fault Refusal :=
  runC2 (bitcount .s8) rd rs1 s

/-- `bitcount.s16` (R102). -/
def execBitcountS16 (rd rs1 : Reg) (s : State) : Host.Outcome State Fault Refusal :=
  runC2 (bitcount .s16) rd rs1 s

/-- `bitcount.s32` (R102). -/
def execBitcountS32 (rd rs1 : Reg) (s : State) : Host.Outcome State Fault Refusal :=
  runC2 (bitcount .s32) rd rs1 s

/-- `bitcount.s64` (R102). -/
def execBitcountS64 (rd rs1 : Reg) (s : State) : Host.Outcome State Fault Refusal :=
  runC2 (bitcount .s64) rd rs1 s

/-- `bitcount.s128` (R102). -/
def execBitcountS128 (rd rs1 : Reg) (s : State) : Host.Outcome State Fault Refusal :=
  runC2 (bitcount .s128) rd rs1 s

end Sys2Proof.Machine
end

