-- ==== Sys2Proof/Machine/Ispow2.lean ====
section
/-! DEFINITION. ISPOW2 in the ten integer and the three float formats (R124, R125). -/

namespace Sys2Proof.Machine

/-- ISPOW2 of an integer: true for a positive power of two; zero and negative values are false (R124). -/
def ispow2Int (F : IntFormat) (a : Word) : Ending :=
  .ok (booleanResult (decide (0 < value F a) && onebit (value F a).toNat))

/-- The three branches of ISPOW2 on a decomposed float (R125): false for a set sign bit or an all-ones exponent; the
single-bit test on the mantissa for a zero exponent field; mantissa 0 for a normal number. -/
def floatIsPow2 (F : FloatFormat) (d : FloatParts) : Bool :=
  if d.s = true ∨ d.e = F.emax then false
  else if d.e = 0 then onebit d.m
  else d.m == 0

/-- ISPOW2 of a float (R125). Total: every pattern gives a boolean. -/
def ispow2Float (F : FloatFormat) (a : Word) : Ending :=
  .ok (booleanResult (floatIsPow2 F (decompose F a)))

/-- `ispow2.u8` (R124). -/
def execIspow2U8 (rd rs1 : Reg) (s : State) : Host.Outcome State Fault Refusal :=
  runC2 (ispow2Int .u8) rd rs1 s

/-- `ispow2.u16` (R124). -/
def execIspow2U16 (rd rs1 : Reg) (s : State) : Host.Outcome State Fault Refusal :=
  runC2 (ispow2Int .u16) rd rs1 s

/-- `ispow2.u32` (R124). -/
def execIspow2U32 (rd rs1 : Reg) (s : State) : Host.Outcome State Fault Refusal :=
  runC2 (ispow2Int .u32) rd rs1 s

/-- `ispow2.u64` (R124). -/
def execIspow2U64 (rd rs1 : Reg) (s : State) : Host.Outcome State Fault Refusal :=
  runC2 (ispow2Int .u64) rd rs1 s

/-- `ispow2.u128` (R124). -/
def execIspow2U128 (rd rs1 : Reg) (s : State) : Host.Outcome State Fault Refusal :=
  runC2 (ispow2Int .u128) rd rs1 s

/-- `ispow2.f16` (R125). -/
def execIspow2F16 (rd rs1 : Reg) (s : State) : Host.Outcome State Fault Refusal :=
  runC2 (ispow2Float .f16) rd rs1 s

/-- `ispow2.f32` (R125). -/
def execIspow2F32 (rd rs1 : Reg) (s : State) : Host.Outcome State Fault Refusal :=
  runC2 (ispow2Float .f32) rd rs1 s

/-- `ispow2.f64` (R125). -/
def execIspow2F64 (rd rs1 : Reg) (s : State) : Host.Outcome State Fault Refusal :=
  runC2 (ispow2Float .f64) rd rs1 s

/-- `ispow2.s8` (R124). -/
def execIspow2S8 (rd rs1 : Reg) (s : State) : Host.Outcome State Fault Refusal :=
  runC2 (ispow2Int .s8) rd rs1 s

/-- `ispow2.s16` (R124). -/
def execIspow2S16 (rd rs1 : Reg) (s : State) : Host.Outcome State Fault Refusal :=
  runC2 (ispow2Int .s16) rd rs1 s

/-- `ispow2.s32` (R124). -/
def execIspow2S32 (rd rs1 : Reg) (s : State) : Host.Outcome State Fault Refusal :=
  runC2 (ispow2Int .s32) rd rs1 s

/-- `ispow2.s64` (R124). -/
def execIspow2S64 (rd rs1 : Reg) (s : State) : Host.Outcome State Fault Refusal :=
  runC2 (ispow2Int .s64) rd rs1 s

/-- `ispow2.s128` (R124). -/
def execIspow2S128 (rd rs1 : Reg) (s : State) : Host.Outcome State Fault Refusal :=
  runC2 (ispow2Int .s128) rd rs1 s

end Sys2Proof.Machine
end

