-- ==== Sys2Proof/Machine/Log2floor.lean ====
section
/-! DEFINITION. The domain checks of the logarithms (R141, R150) and LOG2FLOOR (R143, R144, R151). -/

namespace Sys2Proof.Machine

/-- The integer domain check: a value that is not positive is E_NONPOS, zero in an unsigned format too (R141). -/
def intDomain (F : IntFormat) (a : Word) : Option DomainError :=
  if value F a ≤ 0 then some .nonpos else none

/-- The float domain check (R150), first "value <= 0", which is false of every NaN, then "exponent field all ones".
So -infinity is E_NONPOS, +infinity and every NaN are E_NONFINITE, both zeros are E_NONPOS. -/
def floatDomain (F : FloatFormat) (d : FloatParts) : Option DomainError :=
  if (d.s = true ∧ ¬(d.e = F.emax ∧ d.m ≠ 0)) ∨ (d.e = 0 ∧ d.m = 0) then some .nonpos
  else if d.e = F.emax then some .nonfinite
  else none

/-- A logarithm after its domain check: the error, or the result image (R24 (c), R141, R150). -/
def logEnding (check : Option DomainError) (n : Int) : Ending :=
  match check with
  | some e => .domain e
  | none => .ok (logResult n)

/-- LOG2FLOOR of an integer of width 8, 16, 32 or 64: `(W-1) - clz_W` (R143). -/
def log2floorInt (F : IntFormat) (a : Word) : Ending :=
  logEnding (intDomain F a) ((F.width : Int) - 1 - clz (pat F.width a))

/-- The 128-bit split: `127 - clz_64(hi)` when the high half is not zero, else `63 - clz_64(lo)` (R144). -/
def log2floorHalves (x : BitVec 128) : Int :=
  if x.extractLsb' 64 64 ≠ 0 then 127 - (clz (x.extractLsb' 64 64) : Int)
  else 63 - (clz (x.extractLsb' 0 64) : Int)

/-- LOG2FLOOR of a 128-bit integer (R144). -/
def log2floorInt128 (F : IntFormat) (a : Word) : Ending :=
  logEnding (intDomain F a) (log2floorHalves (pat 128 a))

/-- The floor of the logarithm of a positive finite float: `ilog2floor(m) + 1 - bias - MB` for a subnormal, `e - bias`
for a normal number (R151; the offset corrected by conflict C2). -/
def floatLog2floor (F : FloatFormat) (d : FloatParts) : Int :=
  if d.e = 0 then (ilog2floor d.m : Int) + 1 - F.bias - F.mb
  else (d.e : Int) - F.bias

/-- LOG2FLOOR of a float (R151). -/
def log2floorFloat (F : FloatFormat) (a : Word) : Ending :=
  logEnding (floatDomain F (decompose F a)) (floatLog2floor F (decompose F a))

/-- `log2floor.u8` (R143). -/
def execLog2floorU8 (rd rs1 : Reg) (s : State) : Host.Outcome State Fault Refusal :=
  runC2 (log2floorInt .u8) rd rs1 s

/-- `log2floor.u16` (R143). -/
def execLog2floorU16 (rd rs1 : Reg) (s : State) : Host.Outcome State Fault Refusal :=
  runC2 (log2floorInt .u16) rd rs1 s

/-- `log2floor.u32` (R143). -/
def execLog2floorU32 (rd rs1 : Reg) (s : State) : Host.Outcome State Fault Refusal :=
  runC2 (log2floorInt .u32) rd rs1 s

/-- `log2floor.u64` (R143). -/
def execLog2floorU64 (rd rs1 : Reg) (s : State) : Host.Outcome State Fault Refusal :=
  runC2 (log2floorInt .u64) rd rs1 s

/-- `log2floor.u128` (R144). -/
def execLog2floorU128 (rd rs1 : Reg) (s : State) : Host.Outcome State Fault Refusal :=
  runC2 (log2floorInt128 .u128) rd rs1 s

/-- `log2floor.f16` (R151). -/
def execLog2floorF16 (rd rs1 : Reg) (s : State) : Host.Outcome State Fault Refusal :=
  runC2 (log2floorFloat .f16) rd rs1 s

/-- `log2floor.f32` (R151). -/
def execLog2floorF32 (rd rs1 : Reg) (s : State) : Host.Outcome State Fault Refusal :=
  runC2 (log2floorFloat .f32) rd rs1 s

/-- `log2floor.f64` (R151). -/
def execLog2floorF64 (rd rs1 : Reg) (s : State) : Host.Outcome State Fault Refusal :=
  runC2 (log2floorFloat .f64) rd rs1 s

/-- `log2floor.s8` (R143). -/
def execLog2floorS8 (rd rs1 : Reg) (s : State) : Host.Outcome State Fault Refusal :=
  runC2 (log2floorInt .s8) rd rs1 s

/-- `log2floor.s16` (R143). -/
def execLog2floorS16 (rd rs1 : Reg) (s : State) : Host.Outcome State Fault Refusal :=
  runC2 (log2floorInt .s16) rd rs1 s

/-- `log2floor.s32` (R143). -/
def execLog2floorS32 (rd rs1 : Reg) (s : State) : Host.Outcome State Fault Refusal :=
  runC2 (log2floorInt .s32) rd rs1 s

/-- `log2floor.s64` (R143). -/
def execLog2floorS64 (rd rs1 : Reg) (s : State) : Host.Outcome State Fault Refusal :=
  runC2 (log2floorInt .s64) rd rs1 s

/-- `log2floor.s128` (R144). -/
def execLog2floorS128 (rd rs1 : Reg) (s : State) : Host.Outcome State Fault Refusal :=
  runC2 (log2floorInt128 .s128) rd rs1 s

end Sys2Proof.Machine
end

