-- ==== Sys2Proof/Machine/Log2ceil.lean ====
section
/-! DEFINITION. LOG2CEIL (R146, R147, R153); its domain checks are those of LOG2FLOOR. -/

namespace Sys2Proof.Machine

/-- LOG2CEIL of an integer of width 8, 16, 32 or 64: 0 for 1, else `W - clz_W(v - 1)` (R146). -/
def log2ceilInt (F : IntFormat) (a : Word) : Ending :=
  logEnding (intDomain F a)
    (if value F a = 1 then 0 else (F.width : Int) - clz (enc F.width (value F a - 1)))

/-- The 128-bit split applied to `y = v - 1`: `128 - clz_64(hi)` when the high half is not zero, else
`64 - clz_64(lo)` (R147). -/
def log2ceilHalves (y : BitVec 128) : Int :=
  if y.extractLsb' 64 64 ≠ 0 then 128 - (clz (y.extractLsb' 64 64) : Int)
  else 64 - (clz (y.extractLsb' 0 64) : Int)

/-- LOG2CEIL of a 128-bit integer (R147). -/
def log2ceilInt128 (F : IntFormat) (a : Word) : Ending :=
  logEnding (intDomain F a)
    (if value F a = 1 then 0 else log2ceilHalves (enc 128 (value F a - 1)))

/-- The ceiling of the logarithm of a positive finite float: `ilog2ceil(m) + 1 - bias - MB` for a subnormal; for a normal
number `e - bias`, plus 1 unless the mantissa is 0 (R153; conflict C6). -/
def floatLog2ceil (F : FloatFormat) (d : FloatParts) : Int :=
  if d.e = 0 then (ilog2ceil d.m : Int) + 1 - F.bias - F.mb
  else (d.e : Int) - F.bias + if d.m ≠ 0 then 1 else 0

/-- LOG2CEIL of a float (R153). -/
def log2ceilFloat (F : FloatFormat) (a : Word) : Ending :=
  logEnding (floatDomain F (decompose F a)) (floatLog2ceil F (decompose F a))

/-- `log2ceil.u8` (R146). -/
def execLog2ceilU8 (rd rs1 : Reg) (s : State) : Host.Outcome State Fault Refusal :=
  runC2 (log2ceilInt .u8) rd rs1 s

/-- `log2ceil.u16` (R146). -/
def execLog2ceilU16 (rd rs1 : Reg) (s : State) : Host.Outcome State Fault Refusal :=
  runC2 (log2ceilInt .u16) rd rs1 s

/-- `log2ceil.u32` (R146). -/
def execLog2ceilU32 (rd rs1 : Reg) (s : State) : Host.Outcome State Fault Refusal :=
  runC2 (log2ceilInt .u32) rd rs1 s

/-- `log2ceil.u64` (R146). -/
def execLog2ceilU64 (rd rs1 : Reg) (s : State) : Host.Outcome State Fault Refusal :=
  runC2 (log2ceilInt .u64) rd rs1 s

/-- `log2ceil.u128` (R147). -/
def execLog2ceilU128 (rd rs1 : Reg) (s : State) : Host.Outcome State Fault Refusal :=
  runC2 (log2ceilInt128 .u128) rd rs1 s

/-- `log2ceil.f16` (R153). -/
def execLog2ceilF16 (rd rs1 : Reg) (s : State) : Host.Outcome State Fault Refusal :=
  runC2 (log2ceilFloat .f16) rd rs1 s

/-- `log2ceil.f32` (R153). -/
def execLog2ceilF32 (rd rs1 : Reg) (s : State) : Host.Outcome State Fault Refusal :=
  runC2 (log2ceilFloat .f32) rd rs1 s

/-- `log2ceil.f64` (R153). -/
def execLog2ceilF64 (rd rs1 : Reg) (s : State) : Host.Outcome State Fault Refusal :=
  runC2 (log2ceilFloat .f64) rd rs1 s

/-- `log2ceil.s8` (R146). -/
def execLog2ceilS8 (rd rs1 : Reg) (s : State) : Host.Outcome State Fault Refusal :=
  runC2 (log2ceilInt .s8) rd rs1 s

/-- `log2ceil.s16` (R146). -/
def execLog2ceilS16 (rd rs1 : Reg) (s : State) : Host.Outcome State Fault Refusal :=
  runC2 (log2ceilInt .s16) rd rs1 s

/-- `log2ceil.s32` (R146). -/
def execLog2ceilS32 (rd rs1 : Reg) (s : State) : Host.Outcome State Fault Refusal :=
  runC2 (log2ceilInt .s32) rd rs1 s

/-- `log2ceil.s64` (R146). -/
def execLog2ceilS64 (rd rs1 : Reg) (s : State) : Host.Outcome State Fault Refusal :=
  runC2 (log2ceilInt .s64) rd rs1 s

/-- `log2ceil.s128` (R147). -/
def execLog2ceilS128 (rd rs1 : Reg) (s : State) : Host.Outcome State Fault Refusal :=
  runC2 (log2ceilInt128 .s128) rd rs1 s

end Sys2Proof.Machine
end

