-- ==== Sys2Proof/Machine/Modmul.lean ====
section
/-! DEFINITION. The shared rules of ModArith (R170, R171) and MODMUL in the ten integer formats (R172). -/

namespace Sys2Proof.Machine

/-- `M = abs(val_F(mod))`, the modulus magnitude (R170): exact for the most negative value too. -/
def modulus (F : IntFormat) (p : Word) : Nat :=
  (value F p).natAbs

/-- Every ModArith command tests the modulus before anything else; a zero modulus is the fatal fault (R171). -/
def guardModulus (M : Nat) (e : Ending) : Ending :=
  if M = 0 then .fatal else e

/-- The pattern result of a residue `q` in `0 .. M-1` (R24 (a), R172). -/
def residueResult (F : IntFormat) (q : Int) : Word :=
  patternResult (enc F.width q)

/-- MODMUL: the exact product of the operands as they are, then one reduction (R172, R173). -/
def modmul (F : IntFormat) (md a b : Word) : Ending :=
  guardModulus (modulus F md) (.ok (residueResult F (cmod (value F a * value F b) (modulus F md))))

/-- `modmul.u8` (R172). -/
def execModmulU8 (rd rs1 rs2 rs3 : Reg) (s : State) : Host.Outcome State Fault Refusal :=
  runC4 (modmul .u8) rd rs1 rs2 rs3 s

/-- `modmul.u16` (R172). -/
def execModmulU16 (rd rs1 rs2 rs3 : Reg) (s : State) : Host.Outcome State Fault Refusal :=
  runC4 (modmul .u16) rd rs1 rs2 rs3 s

/-- `modmul.u32` (R172). -/
def execModmulU32 (rd rs1 rs2 rs3 : Reg) (s : State) : Host.Outcome State Fault Refusal :=
  runC4 (modmul .u32) rd rs1 rs2 rs3 s

/-- `modmul.u64` (R172). -/
def execModmulU64 (rd rs1 rs2 rs3 : Reg) (s : State) : Host.Outcome State Fault Refusal :=
  runC4 (modmul .u64) rd rs1 rs2 rs3 s

/-- `modmul.u128` (R172). -/
def execModmulU128 (rd rs1 rs2 rs3 : Reg) (s : State) : Host.Outcome State Fault Refusal :=
  runC4 (modmul .u128) rd rs1 rs2 rs3 s

/-- `modmul.s8` (R172). -/
def execModmulS8 (rd rs1 rs2 rs3 : Reg) (s : State) : Host.Outcome State Fault Refusal :=
  runC4 (modmul .s8) rd rs1 rs2 rs3 s

/-- `modmul.s16` (R172). -/
def execModmulS16 (rd rs1 rs2 rs3 : Reg) (s : State) : Host.Outcome State Fault Refusal :=
  runC4 (modmul .s16) rd rs1 rs2 rs3 s

/-- `modmul.s32` (R172). -/
def execModmulS32 (rd rs1 rs2 rs3 : Reg) (s : State) : Host.Outcome State Fault Refusal :=
  runC4 (modmul .s32) rd rs1 rs2 rs3 s

/-- `modmul.s64` (R172). -/
def execModmulS64 (rd rs1 rs2 rs3 : Reg) (s : State) : Host.Outcome State Fault Refusal :=
  runC4 (modmul .s64) rd rs1 rs2 rs3 s

/-- `modmul.s128` (R172). -/
def execModmulS128 (rd rs1 rs2 rs3 : Reg) (s : State) : Host.Outcome State Fault Refusal :=
  runC4 (modmul .s128) rd rs1 rs2 rs3 s

end Sys2Proof.Machine
end

