-- ==== Sys2Proof/Machine/Euclid.lean ====
section
/-! DEFINITION. The extended-Euclidean unit (R191): used by MODINV and, for a negative exponent, by the MODPOW engine. -/

namespace Sys2Proof.Machine

/-- The loop of R191 on `(r0, r1)` and `(t0, t1)`: while `r1 != 0`, `q <- floor(r0/r1)` and both pairs advance by
`new = old - q * next`. It answers the final remainder and coefficient. The first argument bounds the passes (log
entry 6). The coefficients are exact integers (R193). -/
def euclid : Nat → Nat → Nat → Int → Int → Nat × Int
  | 0, r0, _, t0, _ => (r0, t0)
  | fuel + 1, r0, r1, t0, t1 =>
    if r1 = 0 then (r0, t0)
    else euclid fuel r1 (r0 - r0 / r1 * r1) t1 (t0 - ((r0 / r1 : Nat) : Int) * t1)

/-- The number of passes that a `W`-bit modulus never needs more of: two passes at least halve the remainder (R235). -/
def euclidFuel (W : Nat) : Nat :=
  2 * W

/-- `inverse(M, n)` of R191 for a `W`-bit format: the inverse in `0 .. M-1`, or none for `raise E(E_NOINV)`. -/
def inverse (W M : Nat) (n : Int) : Option Int :=
  let (r0, t0) := euclid (euclidFuel W) M (cmod n M).toNat 0 1
  if 1 < r0 then none
  else if t0 < 0 then some (t0 + M)
  else some t0

/-- The ending of a command whose unit gives a residue or `raise E(E_NOINV)` (R182, R183, R192). -/
def residueEnding (F : IntFormat) : Option Int → Ending
  | some q => .ok (residueResult F q)
  | none => .domain .noinv

end Sys2Proof.Machine
end

