-- ==== Sys2Proof/Machine/Modinv.lean ====
section
/-! DEFINITION. MODINV in the ten integer formats (R192). -/

namespace Sys2Proof.Machine

/-- What the extended-Euclidean unit ends a command with: the residue, or E_NOINV (R191, R203). -/
def modinv (F : IntFormat) (md n : Word) : Ending :=
  guardModulus (modulus F md) (residueEnding F (inverse F.width (modulus F md) (value F n)))

/-- `modinv.u8` (R192). -/
def execModinvU8 (rd rs1 rs2 : Reg) (s : State) : Host.Outcome State Fault Refusal :=
  runC3 (modinv .u8) rd rs1 rs2 s

/-- `modinv.u16` (R192). -/
def execModinvU16 (rd rs1 rs2 : Reg) (s : State) : Host.Outcome State Fault Refusal :=
  runC3 (modinv .u16) rd rs1 rs2 s

/-- `modinv.u32` (R192). -/
def execModinvU32 (rd rs1 rs2 : Reg) (s : State) : Host.Outcome State Fault Refusal :=
  runC3 (modinv .u32) rd rs1 rs2 s

/-- `modinv.u64` (R192). -/
def execModinvU64 (rd rs1 rs2 : Reg) (s : State) : Host.Outcome State Fault Refusal :=
  runC3 (modinv .u64) rd rs1 rs2 s

/-- `modinv.u128` (R192). -/
def execModinvU128 (rd rs1 rs2 : Reg) (s : State) : Host.Outcome State Fault Refusal :=
  runC3 (modinv .u128) rd rs1 rs2 s

/-- `modinv.s8` (R192). -/
def execModinvS8 (rd rs1 rs2 : Reg) (s : State) : Host.Outcome State Fault Refusal :=
  runC3 (modinv .s8) rd rs1 rs2 s

/-- `modinv.s16` (R192). -/
def execModinvS16 (rd rs1 rs2 : Reg) (s : State) : Host.Outcome State Fault Refusal :=
  runC3 (modinv .s16) rd rs1 rs2 s

/-- `modinv.s32` (R192). -/
def execModinvS32 (rd rs1 rs2 : Reg) (s : State) : Host.Outcome State Fault Refusal :=
  runC3 (modinv .s32) rd rs1 rs2 s

/-- `modinv.s64` (R192). -/
def execModinvS64 (rd rs1 rs2 : Reg) (s : State) : Host.Outcome State Fault Refusal :=
  runC3 (modinv .s64) rd rs1 rs2 s

/-- `modinv.s128` (R192). -/
def execModinvS128 (rd rs1 rs2 : Reg) (s : State) : Host.Outcome State Fault Refusal :=
  runC3 (modinv .s128) rd rs1 rs2 s

end Sys2Proof.Machine
end

