-- ==== Sys2Proof/Machine/Modpow.lean ====
section
/-! DEFINITION. The square-and-multiply engine (R180, R181) and MODPOW in the ten integer formats (R182). -/

namespace Sys2Proof.Machine

/-- The loop of R180 on `(acc, b, e)`: while `e != 0`, fold the base into the accumulator when bit 0 of the exponent is
set, square the base, shift the exponent right one bit (logical: R181). The first argument bounds the passes (log
entry 6). -/
def powLoop (M : Nat) : Nat → Int → Int → Nat → Int
  | 0, acc, _, _ => acc
  | fuel + 1, acc, b, e =>
    if e = 0 then acc
    else powLoop M fuel (if e.testBit 0 then cmod (acc * b) M else acc) (cmod (b * b) M) (e >>> 1)

/-- The engine on an exponent that is not negative: the loop, then the last reduction (R180, R184). A `W`-bit exponent
magnitude takes at most `W` passes (R181, R185). -/
def powReduce (W M : Nat) (b : Int) (e : Nat) (k : Int) : Int :=
  cmod (powLoop M W k b e) M

/-- `powmod(M, b, e, k)` of R180 for a `W`-bit format; none for `raise E(E_NOINV)`. For a negative exponent the base is
replaced by its inverse and the exponent by its exact magnitude, the most negative one included (R181; the parameter
`modpow_min_exponent` at its value `exact`, log entry 8). -/
def powmod (W M : Nat) (b e k : Int) : Option Int :=
  if e < 0 then
    match inverse W M b with
    | none => none
    | some b' => some (powReduce W M b' e.natAbs k)
  else some (powReduce W M b e.natAbs k)

/-- MODPOW: the engine with multiplier 1 (R182). -/
def modpow (F : IntFormat) (md b e : Word) : Ending :=
  guardModulus (modulus F md)
    (residueEnding F (powmod F.width (modulus F md) (value F b) (value F e) 1))

/-- `modpow.u8` (R182). -/
def execModpowU8 (rd rs1 rs2 rs3 : Reg) (s : State) : Host.Outcome State Fault Refusal :=
  runC4 (modpow .u8) rd rs1 rs2 rs3 s

/-- `modpow.u16` (R182). -/
def execModpowU16 (rd rs1 rs2 rs3 : Reg) (s : State) : Host.Outcome State Fault Refusal :=
  runC4 (modpow .u16) rd rs1 rs2 rs3 s

/-- `modpow.u32` (R182). -/
def execModpowU32 (rd rs1 rs2 rs3 : Reg) (s : State) : Host.Outcome State Fault Refusal :=
  runC4 (modpow .u32) rd rs1 rs2 rs3 s

/-- `modpow.u64` (R182). -/
def execModpowU64 (rd rs1 rs2 rs3 : Reg) (s : State) : Host.Outcome State Fault Refusal :=
  runC4 (modpow .u64) rd rs1 rs2 rs3 s

/-- `modpow.u128` (R182). -/
def execModpowU128 (rd rs1 rs2 rs3 : Reg) (s : State) : Host.Outcome State Fault Refusal :=
  runC4 (modpow .u128) rd rs1 rs2 rs3 s

/-- `modpow.s8` (R182). -/
def execModpowS8 (rd rs1 rs2 rs3 : Reg) (s : State) : Host.Outcome State Fault Refusal :=
  runC4 (modpow .s8) rd rs1 rs2 rs3 s

/-- `modpow.s16` (R182). -/
def execModpowS16 (rd rs1 rs2 rs3 : Reg) (s : State) : Host.Outcome State Fault Refusal :=
  runC4 (modpow .s16) rd rs1 rs2 rs3 s

/-- `modpow.s32` (R182). -/
def execModpowS32 (rd rs1 rs2 rs3 : Reg) (s : State) : Host.Outcome State Fault Refusal :=
  runC4 (modpow .s32) rd rs1 rs2 rs3 s

/-- `modpow.s64` (R182). -/
def execModpowS64 (rd rs1 rs2 rs3 : Reg) (s : State) : Host.Outcome State Fault Refusal :=
  runC4 (modpow .s64) rd rs1 rs2 rs3 s

/-- `modpow.s128` (R182). -/
def execModpowS128 (rd rs1 rs2 rs3 : Reg) (s : State) : Host.Outcome State Fault Refusal :=
  runC4 (modpow .s128) rd rs1 rs2 rs3 s

end Sys2Proof.Machine
end

