-- ==== Sys2Proof/Machine/Modpowm.lean ====
section
/-! DEFINITION. MODPOWM in the ten integer formats (R183): the engine of MODPOW with the multiplier given. -/

namespace Sys2Proof.Machine

/-- MODPOWM: the multiplier is the starting value of the accumulator (R183). -/
def modpowm (F : IntFormat) (md b e k : Word) : Ending :=
  guardModulus (modulus F md)
    (residueEnding F (powmod F.width (modulus F md) (value F b) (value F e) (value F k)))

/-- `modpowm.u8` (R183). -/
def execModpowmU8 (rd rs1 rs2 rs3 rs4 : Reg) (s : State) : Host.Outcome State Fault Refusal :=
  runC5 (modpowm .u8) rd rs1 rs2 rs3 rs4 s

/-- `modpowm.u16` (R183). -/
def execModpowmU16 (rd rs1 rs2 rs3 rs4 : Reg) (s : State) : Host.Outcome State Fault Refusal :=
  runC5 (modpowm .u16) rd rs1 rs2 rs3 rs4 s

/-- `modpowm.u32` (R183). -/
def execModpowmU32 (rd rs1 rs2 rs3 rs4 : Reg) (s : State) : Host.Outcome State Fault Refusal :=
  runC5 (modpowm .u32) rd rs1 rs2 rs3 rs4 s

/-- `modpowm.u64` (R183). -/
def execModpowmU64 (rd rs1 rs2 rs3 rs4 : Reg) (s : State) : Host.Outcome State Fault Refusal :=
  runC5 (modpowm .u64) rd rs1 rs2 rs3 rs4 s

/-- `modpowm.u128` (R183). -/
def execModpowmU128 (rd rs1 rs2 rs3 rs4 : Reg) (s : State) : Host.Outcome State Fault Refusal :=
  runC5 (modpowm .u128) rd rs1 rs2 rs3 rs4 s

/-- `modpowm.s8` (R183). -/
def execModpowmS8 (rd rs1 rs2 rs3 rs4 : Reg) (s : State) : Host.Outcome State Fault Refusal :=
  runC5 (modpowm .s8) rd rs1 rs2 rs3 rs4 s

/-- `modpowm.s16` (R183). -/
def execModpowmS16 (rd rs1 rs2 rs3 rs4 : Reg) (s : State) : Host.Outcome State Fault Refusal :=
  runC5 (modpowm .s16) rd rs1 rs2 rs3 rs4 s

/-- `modpowm.s32` (R183). -/
def execModpowmS32 (rd rs1 rs2 rs3 rs4 : Reg) (s : State) : Host.Outcome State Fault Refusal :=
  runC5 (modpowm .s32) rd rs1 rs2 rs3 rs4 s

/-- `modpowm.s64` (R183). -/
def execModpowmS64 (rd rs1 rs2 rs3 rs4 : Reg) (s : State) : Host.Outcome State Fault Refusal :=
  runC5 (modpowm .s64) rd rs1 rs2 rs3 rs4 s

/-- `modpowm.s128` (R183). -/
def execModpowmS128 (rd rs1 rs2 rs3 rs4 : Reg) (s : State) : Host.Outcome State Fault Refusal :=
  runC5 (modpowm .s128) rd rs1 rs2 rs3 rs4 s

end Sys2Proof.Machine
end

