-- ==== Sys2Proof/Machine/Revbits.lean ====
section
/-! DEFINITION. REVBITS in the ten integer formats (R104). -/

namespace Sys2Proof.Machine

/-- One level of the swap network: the two `N`-bit halves of every `2N`-bit group change places (R104). -/
def revStage {W : Nat} (x : BitVec W) (N : Nat) : BitVec W :=
  ((x &&& mask W N) <<< N) ||| ((x >>> N) &&& mask W N)

/-- The swap network: all levels, smallest group first (R104). -/
def revNetwork {W : Nat} (x : BitVec W) : BitVec W :=
  (stages W).foldl revStage x

/-- REVBITS: the pattern with its bit order reversed end to end (R104). Total, no error. -/
def revbits (F : IntFormat) (a : Word) : Ending :=
  .ok (patternResult (revNetwork (pat F.width a)))

/-- `revbits.u8` (R104). -/
def execRevbitsU8 (rd rs1 : Reg) (s : State) : Host.Outcome State Fault Refusal :=
  runC2 (revbits .u8) rd rs1 s

/-- `revbits.u16` (R104). -/
def execRevbitsU16 (rd rs1 : Reg) (s : State) : Host.Outcome State Fault Refusal :=
  runC2 (revbits .u16) rd rs1 s

/-- `revbits.u32` (R104). -/
def execRevbitsU32 (rd rs1 : Reg) (s : State) : Host.Outcome State Fault Refusal :=
  runC2 (revbits .u32) rd rs1 s

/-- `revbits.u64` (R104). -/
def execRevbitsU64 (rd rs1 : Reg) (s : State) : Host.Outcome State Fault Refusal :=
  runC2 (revbits .u64) rd rs1 s

/-- `revbits.u128` (R104). -/
def execRevbitsU128 (rd rs1 : Reg) (s : State) : Host.Outcome State Fault Refusal :=
  runC2 (revbits .u128) rd rs1 s

/-- `revbits.s8` (R104). -/
def execRevbitsS8 (rd rs1 : Reg) (s : State) : Host.Outcome State Fault Refusal :=
  runC2 (revbits .s8) rd rs1 s

/-- `revbits.s16` (R104). -/
def execRevbitsS16 (rd rs1 : Reg) (s : State) : Host.Outcome State Fault Refusal :=
  runC2 (revbits .s16) rd rs1 s

/-- `revbits.s32` (R104). -/
def execRevbitsS32 (rd rs1 : Reg) (s : State) : Host.Outcome State Fault Refusal :=
  runC2 (revbits .s32) rd rs1 s

/-- `revbits.s64` (R104). -/
def execRevbitsS64 (rd rs1 : Reg) (s : State) : Host.Outcome State Fault Refusal :=
  runC2 (revbits .s64) rd rs1 s

/-- `revbits.s128` (R104). -/
def execRevbitsS128 (rd rs1 : Reg) (s : State) : Host.Outcome State Fault Refusal :=
  runC2 (revbits .s128) rd rs1 s

end Sys2Proof.Machine
end

