-- ==== Sys2Proof/Machine/Dispatch.lean ====
section
/-! DEFINITION. The dispatch: one arm per constructor of `Instr`, each one direct call of its meaning. -/

namespace Sys2Proof.Machine

def exec (i : Instr) (s : State) : Host.Outcome State Fault Refusal :=
  match i with
  | .bitcountU8 rd rs1 => Sys2Proof.Machine.execBitcountU8 rd rs1 s
  | .bitcountU16 rd rs1 => Sys2Proof.Machine.execBitcountU16 rd rs1 s
  | .bitcountU32 rd rs1 => Sys2Proof.Machine.execBitcountU32 rd rs1 s
  | .bitcountU64 rd rs1 => Sys2Proof.Machine.execBitcountU64 rd rs1 s
  | .bitcountU128 rd rs1 => Sys2Proof.Machine.execBitcountU128 rd rs1 s
  | .bitcountS8 rd rs1 => Sys2Proof.Machine.execBitcountS8 rd rs1 s
  | .bitcountS16 rd rs1 => Sys2Proof.Machine.execBitcountS16 rd rs1 s
  | .bitcountS32 rd rs1 => Sys2Proof.Machine.execBitcountS32 rd rs1 s
  | .bitcountS64 rd rs1 => Sys2Proof.Machine.execBitcountS64 rd rs1 s
  | .bitcountS128 rd rs1 => Sys2Proof.Machine.execBitcountS128 rd rs1 s
  | .revbitsU8 rd rs1 => Sys2Proof.Machine.execRevbitsU8 rd rs1 s
  | .revbitsU16 rd rs1 => Sys2Proof.Machine.execRevbitsU16 rd rs1 s
  | .revbitsU32 rd rs1 => Sys2Proof.Machine.execRevbitsU32 rd rs1 s
  | .revbitsU64 rd rs1 => Sys2Proof.Machine.execRevbitsU64 rd rs1 s
  | .revbitsU128 rd rs1 => Sys2Proof.Machine.execRevbitsU128 rd rs1 s
  | .revbitsS8 rd rs1 => Sys2Proof.Machine.execRevbitsS8 rd rs1 s
  | .revbitsS16 rd rs1 => Sys2Proof.Machine.execRevbitsS16 rd rs1 s
  | .revbitsS32 rd rs1 => Sys2Proof.Machine.execRevbitsS32 rd rs1 s
  | .revbitsS64 rd rs1 => Sys2Proof.Machine.execRevbitsS64 rd rs1 s
  | .revbitsS128 rd rs1 => Sys2Proof.Machine.execRevbitsS128 rd rs1 s
  | .ispow2U8 rd rs1 => Sys2Proof.Machine.execIspow2U8 rd rs1 s
  | .ispow2U16 rd rs1 => Sys2Proof.Machine.execIspow2U16 rd rs1 s
  | .ispow2U32 rd rs1 => Sys2Proof.Machine.execIspow2U32 rd rs1 s
  | .ispow2U64 rd rs1 => Sys2Proof.Machine.execIspow2U64 rd rs1 s
  | .ispow2U128 rd rs1 => Sys2Proof.Machine.execIspow2U128 rd rs1 s
  | .ispow2F16 rd rs1 => Sys2Proof.Machine.execIspow2F16 rd rs1 s
  | .ispow2F32 rd rs1 => Sys2Proof.Machine.execIspow2F32 rd rs1 s
  | .ispow2F64 rd rs1 => Sys2Proof.Machine.execIspow2F64 rd rs1 s
  | .ispow2S8 rd rs1 => Sys2Proof.Machine.execIspow2S8 rd rs1 s
  | .ispow2S16 rd rs1 => Sys2Proof.Machine.execIspow2S16 rd rs1 s
  | .ispow2S32 rd rs1 => Sys2Proof.Machine.execIspow2S32 rd rs1 s
  | .ispow2S64 rd rs1 => Sys2Proof.Machine.execIspow2S64 rd rs1 s
  | .ispow2S128 rd rs1 => Sys2Proof.Machine.execIspow2S128 rd rs1 s
  | .log2floorU8 rd rs1 => Sys2Proof.Machine.execLog2floorU8 rd rs1 s
  | .log2floorU16 rd rs1 => Sys2Proof.Machine.execLog2floorU16 rd rs1 s
  | .log2floorU32 rd rs1 => Sys2Proof.Machine.execLog2floorU32 rd rs1 s
  | .log2floorU64 rd rs1 => Sys2Proof.Machine.execLog2floorU64 rd rs1 s
  | .log2floorU128 rd rs1 => Sys2Proof.Machine.execLog2floorU128 rd rs1 s
  | .log2floorF16 rd rs1 => Sys2Proof.Machine.execLog2floorF16 rd rs1 s
  | .log2floorF32 rd rs1 => Sys2Proof.Machine.execLog2floorF32 rd rs1 s
  | .log2floorF64 rd rs1 => Sys2Proof.Machine.execLog2floorF64 rd rs1 s
  | .log2floorS8 rd rs1 => Sys2Proof.Machine.execLog2floorS8 rd rs1 s
  | .log2floorS16 rd rs1 => Sys2Proof.Machine.execLog2floorS16 rd rs1 s
  | .log2floorS32 rd rs1 => Sys2Proof.Machine.execLog2floorS32 rd rs1 s
  | .log2floorS64 rd rs1 => Sys2Proof.Machine.execLog2floorS64 rd rs1 s
  | .log2floorS128 rd rs1 => Sys2Proof.Machine.execLog2floorS128 rd rs1 s
  | .log2ceilU8 rd rs1 => Sys2Proof.Machine.execLog2ceilU8 rd rs1 s
  | .log2ceilU16 rd rs1 => Sys2Proof.Machine.execLog2ceilU16 rd rs1 s
  | .log2ceilU32 rd rs1 => Sys2Proof.Machine.execLog2ceilU32 rd rs1 s
  | .log2ceilU64 rd rs1 => Sys2Proof.Machine.execLog2ceilU64 rd rs1 s
  | .log2ceilU128 rd rs1 => Sys2Proof.Machine.execLog2ceilU128 rd rs1 s
  | .log2ceilF16 rd rs1 => Sys2Proof.Machine.execLog2ceilF16 rd rs1 s
  | .log2ceilF32 rd rs1 => Sys2Proof.Machine.execLog2ceilF32 rd rs1 s
  | .log2ceilF64 rd rs1 => Sys2Proof.Machine.execLog2ceilF64 rd rs1 s
  | .log2ceilS8 rd rs1 => Sys2Proof.Machine.execLog2ceilS8 rd rs1 s
  | .log2ceilS16 rd rs1 => Sys2Proof.Machine.execLog2ceilS16 rd rs1 s
  | .log2ceilS32 rd rs1 => Sys2Proof.Machine.execLog2ceilS32 rd rs1 s
  | .log2ceilS64 rd rs1 => Sys2Proof.Machine.execLog2ceilS64 rd rs1 s
  | .log2ceilS128 rd rs1 => Sys2Proof.Machine.execLog2ceilS128 rd rs1 s
  | .modmulU8 rd rs1 rs2 rs3 => Sys2Proof.Machine.execModmulU8 rd rs1 rs2 rs3 s
  | .modmulU16 rd rs1 rs2 rs3 => Sys2Proof.Machine.execModmulU16 rd rs1 rs2 rs3 s
  | .modmulU32 rd rs1 rs2 rs3 => Sys2Proof.Machine.execModmulU32 rd rs1 rs2 rs3 s
  | .modmulU64 rd rs1 rs2 rs3 => Sys2Proof.Machine.execModmulU64 rd rs1 rs2 rs3 s
  | .modmulU128 rd rs1 rs2 rs3 => Sys2Proof.Machine.execModmulU128 rd rs1 rs2 rs3 s
  | .modmulS8 rd rs1 rs2 rs3 => Sys2Proof.Machine.execModmulS8 rd rs1 rs2 rs3 s
  | .modmulS16 rd rs1 rs2 rs3 => Sys2Proof.Machine.execModmulS16 rd rs1 rs2 rs3 s
  | .modmulS32 rd rs1 rs2 rs3 => Sys2Proof.Machine.execModmulS32 rd rs1 rs2 rs3 s
  | .modmulS64 rd rs1 rs2 rs3 => Sys2Proof.Machine.execModmulS64 rd rs1 rs2 rs3 s
  | .modmulS128 rd rs1 rs2 rs3 => Sys2Proof.Machine.execModmulS128 rd rs1 rs2 rs3 s
  | .modpowU8 rd rs1 rs2 rs3 => Sys2Proof.Machine.execModpowU8 rd rs1 rs2 rs3 s
  | .modpowU16 rd rs1 rs2 rs3 => Sys2Proof.Machine.execModpowU16 rd rs1 rs2 rs3 s
  | .modpowU32 rd rs1 rs2 rs3 => Sys2Proof.Machine.execModpowU32 rd rs1 rs2 rs3 s
  | .modpowU64 rd rs1 rs2 rs3 => Sys2Proof.Machine.execModpowU64 rd rs1 rs2 rs3 s
  | .modpowU128 rd rs1 rs2 rs3 => Sys2Proof.Machine.execModpowU128 rd rs1 rs2 rs3 s
  | .modpowS8 rd rs1 rs2 rs3 => Sys2Proof.Machine.execModpowS8 rd rs1 rs2 rs3 s
  | .modpowS16 rd rs1 rs2 rs3 => Sys2Proof.Machine.execModpowS16 rd rs1 rs2 rs3 s
  | .modpowS32 rd rs1 rs2 rs3 => Sys2Proof.Machine.execModpowS32 rd rs1 rs2 rs3 s
  | .modpowS64 rd rs1 rs2 rs3 => Sys2Proof.Machine.execModpowS64 rd rs1 rs2 rs3 s
  | .modpowS128 rd rs1 rs2 rs3 => Sys2Proof.Machine.execModpowS128 rd rs1 rs2 rs3 s
  | .modpowmU8 rd rs1 rs2 rs3 rs4 => Sys2Proof.Machine.execModpowmU8 rd rs1 rs2 rs3 rs4 s
  | .modpowmU16 rd rs1 rs2 rs3 rs4 => Sys2Proof.Machine.execModpowmU16 rd rs1 rs2 rs3 rs4 s
  | .modpowmU32 rd rs1 rs2 rs3 rs4 => Sys2Proof.Machine.execModpowmU32 rd rs1 rs2 rs3 rs4 s
  | .modpowmU64 rd rs1 rs2 rs3 rs4 => Sys2Proof.Machine.execModpowmU64 rd rs1 rs2 rs3 rs4 s
  | .modpowmU128 rd rs1 rs2 rs3 rs4 => Sys2Proof.Machine.execModpowmU128 rd rs1 rs2 rs3 rs4 s
  | .modpowmS8 rd rs1 rs2 rs3 rs4 => Sys2Proof.Machine.execModpowmS8 rd rs1 rs2 rs3 rs4 s
  | .modpowmS16 rd rs1 rs2 rs3 rs4 => Sys2Proof.Machine.execModpowmS16 rd rs1 rs2 rs3 rs4 s
  | .modpowmS32 rd rs1 rs2 rs3 rs4 => Sys2Proof.Machine.execModpowmS32 rd rs1 rs2 rs3 rs4 s
  | .modpowmS64 rd rs1 rs2 rs3 rs4 => Sys2Proof.Machine.execModpowmS64 rd rs1 rs2 rs3 rs4 s
  | .modpowmS128 rd rs1 rs2 rs3 rs4 => Sys2Proof.Machine.execModpowmS128 rd rs1 rs2 rs3 rs4 s
  | .modinvU8 rd rs1 rs2 => Sys2Proof.Machine.execModinvU8 rd rs1 rs2 s
  | .modinvU16 rd rs1 rs2 => Sys2Proof.Machine.execModinvU16 rd rs1 rs2 s
  | .modinvU32 rd rs1 rs2 => Sys2Proof.Machine.execModinvU32 rd rs1 rs2 s
  | .modinvU64 rd rs1 rs2 => Sys2Proof.Machine.execModinvU64 rd rs1 rs2 s
  | .modinvU128 rd rs1 rs2 => Sys2Proof.Machine.execModinvU128 rd rs1 rs2 s
  | .modinvS8 rd rs1 rs2 => Sys2Proof.Machine.execModinvS8 rd rs1 rs2 s
  | .modinvS16 rd rs1 rs2 => Sys2Proof.Machine.execModinvS16 rd rs1 rs2 s
  | .modinvS32 rd rs1 rs2 => Sys2Proof.Machine.execModinvS32 rd rs1 rs2 s
  | .modinvS64 rd rs1 rs2 => Sys2Proof.Machine.execModinvS64 rd rs1 rs2 s
  | .modinvS128 rd rs1 rs2 => Sys2Proof.Machine.execModinvS128 rd rs1 rs2 s

end Sys2Proof.Machine
end

