-- ==== Sys2Proof/Machine/Transactions.lean ====
section
/-! DEFINITION. The Issue transaction (R45) and performing any one of the five transactions (R42). -/

namespace Sys2Proof.Machine

/-- `Issue(w)` (R45), in its order of tests (R208): a halted block refuses every word without decoding it; a word that
matches no row is illegal; else the rule of the row runs. -/
def issue (w : CommandWord) (s : State) : Host.Outcome State Fault Refusal :=
  if s.halted then .next s.refuseHalted
  else
    match decode w with
    | .error _ => .next (s.raiseError .eIllegal)
    | .ok i => exec i s

/-- One transaction, wholly, on a state that holds none of it yet (R42). -/
def perform (t : Txn) (s : State) : Host.Outcome State Fault Refusal :=
  match t with
  | .reset => .next s.resetTxn
  | .writeReg i v => .next (s.writeRegTxn i v)
  | .readReg i => .next (s.readRegTxn i)
  | .readCsr n => .next (s.readCsrTxn n)
  | .issue w => issue w s

end Sys2Proof.Machine
end

