-- ==== Sys2Proof/Machine/Step.lean ====
section
/-! DEFINITION. One step: the block performs the next transaction of the host's script. -/

namespace Sys2Proof.Machine

/-- One step. The transactions happen one at a time in the host's order (R42, R53); with none presented the block does
nothing (R214). -/
def step (s : State) : Host.Outcome State Fault Refusal :=
  match s.script with
  | [] => .next s
  | t :: rest => perform t (s.take rest)

/-- The state with an `Issue` of the given word as the host's next transaction: the block fetches nothing, a command word
is an argument of Issue (R45, R55). The bits above `nbits` are 0. -/
def State.withFetchWord (s : State) (nbits w : Nat) : State :=
  { s with script := .issue (BitVec.ofNat 32 (w % 2 ^ nbits)) :: s.script }

end Sys2Proof.Machine
end

