-- ==== Sys2Proof/Machine/Script.lean ====
section
/-! DEFINITION. The written form of commands and of scripts (R70, R71, R72): what transaction a line of a script stands
for, and the text of a command. A program for this block is a list of such lines; the block itself sees transactions
only. -/

namespace Sys2Proof.Machine

/-- A line of a script (R72). -/
inductive Line where
  /-- `reset` -/
  | reset
  /-- `wreg rN, <value>` -/
  | wreg (r : Reg) (value : Int)
  /-- `rreg rN` -/
  | rreg (r : Reg)
  /-- `rcsr status` is `rcsr 0`; the test scripts also read other numbers (`96_test_vectors_modarith_programs.md` X25). -/
  | rcsr (n : Nat)
  /-- `<stem>.<fmt> rd, rs1[, rs2[, rs3[, rs4]]]` -/
  | command (stem : Stem) (fmt : Format) (operands : List Reg)
  /-- An Issue of a raw word, as program P4 writes it. -/
  | rawWord (w : CommandWord)
  deriving DecidableEq, Repr

/-- The stem a command line stands for: `modpow` with five operands is `modpowm`, the one pseudo-instruction (R71). -/
def lineStem (stem : Stem) (operands : List Reg) : Stem :=
  if stem = .modpow ∧ operands.length = 5 then .modpowm else stem

/-- The command of a stem, a format and a list of operands; none when the number of operands is not that of the shape,
or when the operation does not take the format (R64, R70). -/
def commandOf (stem : Stem) (fmt : Format) (operands : List Reg) : Option Instr :=
  match stem.shape, operands with
  | .c2, [rd, rs1] => instrOf ⟨stem, fmt, rd, rs1, 0, 0, 0⟩
  | .c3, [rd, rs1, rs2] => instrOf ⟨stem, fmt, rd, rs1, rs2, 0, 0⟩
  | .c4, [rd, rs1, rs2, rs3] => instrOf ⟨stem, fmt, rd, rs1, rs2, rs3, 0⟩
  | .c5, [rd, rs1, rs2, rs3, rs4] => instrOf ⟨stem, fmt, rd, rs1, rs2, rs3, rs4⟩
  | _, _ => none

/-- The 128-bit value a `wreg` line writes: zero-extended, or two's complement for a value with a minus sign (R72); none
for a number that 128 bits do not hold (log entry 11). -/
def wregValue (v : Int) : Option Word :=
  if -(2 ^ 127) ≤ v ∧ v < 2 ^ 128 then some (BitVec.ofInt 128 v) else none

/-- The transaction a line stands for (R72). -/
def Line.txn : Line → Option Txn
  | .reset => some .reset
  | .wreg r v => (wregValue v).map fun w => .writeReg r w
  | .rreg r => some (.readReg r)
  | .rcsr n => some (.readCsr n)
  | .command stem fmt operands =>
    (commandOf (lineStem stem operands) fmt operands).map fun i => .issue (encode i)
  | .rawWord w => some (.issue w)

/-- The transactions of a script, in its order; none when one of its lines stands for none (R72). -/
def assemble (program : List Line) : Option (List Txn) :=
  program.mapM Line.txn

/-- A register's name (R21, R70). -/
def regName (r : Reg) : String :=
  "r" ++ toString r.val

/-- The operand registers of a command in assembler order: the destination, then the sources (R61, R70). -/
def operandList (i : Instr) : List Reg :=
  i.rd :: i.sources

/-- The text of a command: `<stem>.<fmt> rd, rs1[, rs2[, rs3[, rs4]]]` (R70). -/
def commandText (i : Instr) : String :=
  i.mnemonic ++ " " ++ ", ".intercalate ((operandList i).map regName)

end Sys2Proof.Machine
end

