-- ==== Sys2Proof/Safety.lean ====
section
/-! DEFINITION. What claims are stated in: the legal values of STATUS, the ready and the halted block, what a transaction
may change. -/

namespace Sys2Proof.Safety

open Sys2Proof.Machine

/-- The legal values of the whole STATUS register: `0x000` to `0x005` and `0x104` (R25). -/
def StatusLegal (s : State) : Prop :=
  s.status = 0 ∨ s.status = 1 ∨ s.status = 2 ∨ s.status = 3 ∨ s.status = 4 ∨ s.status = 5 ∨ s.status = 0x104

/-- The values STATUS can have in a run: CODE 4 never stands there without FAULT, because F_DIVZERO sets both (R206). -/
def StatusReachable (s : State) : Prop :=
  s.status = 0 ∨ s.status = 1 ∨ s.status = 2 ∨ s.status = 3 ∨ s.status = 5 ∨ s.status = 0x104

/-- Two states hold the same registers: the same contents and the same record of which are written. -/
def SameRegs (s t : State) : Prop :=
  t.regs = s.regs ∧ t.written = s.written

/-- Every register but one is as before (R24). -/
def SameRegsBut (rd : Reg) (s t : State) : Prop :=
  ∀ r : Reg, r ≠ rd → t.regs[r] = s.regs[r] ∧ t.written[r] = s.written[r]

/-- STATUS is as before in all bits but CODE, bits 3:0, and FAULT, bit 8. -/
def SameStatusElsewhere (s t : State) : Prop :=
  ∀ k : Nat, 4 ≤ k → k ≠ 8 → t.status.getLsbD k = s.status.getLsbD k

/-- The model's own bookkeeping is as before: the script and the counter. -/
def SameBookkeeping (s t : State) : Prop :=
  t.script = s.script ∧ t.fresh = s.fresh

/-- What `Issue(w)` changes when it returns `c` and no register is written: CODE and the response (R203). -/
def OnlyCode (c : Code) (s t : State) : Prop :=
  SameRegs s t ∧ SameBookkeeping s t ∧ t.code = c.number ∧ t.halted = s.halted ∧ SameStatusElsewhere s t ∧
    t.response = some (.outcome c)

/-- The number a command word is, field by field: `OP + 16*FMT + 256*RD + 2048*RS1 + 16384*RS2 + 131072*RS3 +
1048576*RS4 + 8388608*M` (R70). -/
def wordNumber (op fmt : Nat) (rd rs1 rs2 rs3 rs4 : Reg) (m : Nat) : Nat :=
  op + 16 * fmt + 256 * rd.val + 2048 * rs1.val + 16384 * rs2.val + 131072 * rs3.val + 1048576 * rs4.val +
    8388608 * m

/-- The FMT code of an integer format as a number (R63). -/
def intFmt (F : IntFormat) : Nat :=
  (Format.int F).code.toNat

/-- The FMT code of a float format as a number (R63). -/
def floatFmt (F : FloatFormat) : Nat :=
  (Format.float F).code.toNat

/-- A decomposed float is a positive subnormal or a positive normal number: what passes both tests of R150. -/
def PositiveFinite (F : FloatFormat) (d : FloatParts) : Prop :=
  d.s = false ∧ (classify F d = .subnormal ∨ classify F d = .normal)

/-- A decomposed float compares `<= 0`: a zero of either sign, or a pattern with the sign bit set that is no NaN, so
-infinity too (R150). -/
def NotAboveZero (F : FloatFormat) (d : FloatParts) : Prop :=
  classify F d = .zero ∨ (d.s = true ∧ classify F d ≠ .nan)

/-- A decomposed float is not finite and did not already fail as `<= 0`: +infinity, or a NaN of either sign (R150). -/
def NotFinite (F : FloatFormat) (d : FloatParts) : Prop :=
  classify F d = .nan ∨ (d.s = false ∧ classify F d = .infinity)

/-- What a command that computes `k * b^e` modulo `M` into `rd` answers (R171, R180 to R184): the fatal fault for `M = 0`
whatever the exponent; the residue of the exact power for `e >= 0`; for `e < 0` the residue `q` with
`q * b^|e|` congruent to `k` when `b` is coprime with `M`, and E_NOINV when it is not. -/
def PowerResidue (s : State) (rd : Reg) (M : Nat) (b e k : Int) (o : Host.Outcome State Fault Refusal) : Prop :=
  (M = 0 → o = .next s.raiseFatal) ∧
  (0 < M → 0 ≤ e → o = .next (s.finishOk rd (BitVec.ofInt 128 ((k * b ^ e.toNat) % M)))) ∧
  (0 < M → e < 0 → Int.gcd b M = 1 →
    ∃ q : Int, 0 ≤ q ∧ q < M ∧ (q * b ^ e.natAbs) % M = k % M ∧ o = .next (s.finishOk rd (BitVec.ofInt 128 q))) ∧
  (0 < M → e < 0 → 1 < Int.gcd b M → o = .next (s.raiseError .eNoinv))

/-- What a command that computes the inverse of `n` modulo `M` into `rd` answers (R171, R191, R192). -/
def InverseResidue (s : State) (rd : Reg) (M : Nat) (n : Int) (o : Host.Outcome State Fault Refusal) : Prop :=
  (M = 0 → o = .next s.raiseFatal) ∧
  (0 < M → Int.gcd n M = 1 →
    ∃ x : Int, 0 ≤ x ∧ x < M ∧ (n * x) % M = 1 % M ∧ o = .next (s.finishOk rd (BitVec.ofInt 128 x))) ∧
  (0 < M → 1 < Int.gcd n M → o = .next (s.raiseError .eNoinv))

end Sys2Proof.Safety
end

