-- ==== Sys2Proof/Certificates/Slice0/Obligations.lean ====
section
/-! DEFINITION. The statements for the provers. Each docstring names the rules of `spec/` it formalises. -/

open Sys2Proof Sys2Proof.Machine Sys2Proof.Safety

/-! ## Encoding -/

/-- The decoder reads every encoded command back, all register fields at every value (R61 to R65). -/
def Obligations.DecodeReadsBackEncode : Prop :=
  ∀ i : Instr, decode (encode i) = .ok i

/-- A legal word is the word of the command it decodes to: no bit of a legal word is dropped (R61, R65, R66). -/
def Obligations.LegalWordIsItsCommandsWord : Prop :=
  ∀ (w : CommandWord) (i : Instr), decode w = .ok i → encode i = w

/-- R66: the illegal words are those that match no row, and they are exactly those of its clauses (a) to (f); Issue of
one runs nothing, writes no register, sets CODE to 5 and returns 5, leaves FAULT and so the block ready; the all-zero and
the all-ones word are illegal by (a). -/
def Obligations.IllegalWordsAreThoseOfTheSixClauses : Prop :=
  (∀ w : CommandWord, (∃ r, decode w = .error r) ↔ (fieldsOf w).illegal = true) ∧
  (∀ w : CommandWord, (fieldsOf w).illegal = true ↔
    ∀ stem F, legalPair stem F = true → w &&& rowMask stem ≠ rowMatch stem F) ∧
  (∀ (w : CommandWord) (s : State), (fieldsOf w).illegal = true → s.halted = false →
    ∃ t, issue w s = .next t ∧ OnlyCode .eIllegal s t) ∧
  (fieldsOf 0x00000000).clauseA = true ∧ (fieldsOf 0xFFFFFFFF).clauseA = true

/-- R65: a word is the command of a row when `(w AND mask) = match`, with the mask of the row's shape and the match
`op + 16*fmt`, plus `0x00800000` for shape C5; it matches at most one row; its register fields stand at their places. -/
def Obligations.WordIsTheCommandOfTheRowItMatches : Prop :=
  (∀ (w : CommandWord) (stem : Stem) (F : Format), legalPair stem F = true →
    (w &&& rowMask stem = rowMatch stem F ↔ ∃ i, decode w = .ok i ∧ i.stem = stem ∧ i.format = F)) ∧
  (∀ (w : CommandWord) (stem stem' : Stem) (F F' : Format), legalPair stem F = true → legalPair stem' F' = true →
    w &&& rowMask stem = rowMatch stem F → w &&& rowMask stem' = rowMatch stem' F' → stem = stem' ∧ F = F') ∧
  (∀ w : CommandWord, (∀ stem F, legalPair stem F = true → w &&& rowMask stem ≠ rowMatch stem F) →
    ∃ r, decode w = .error r) ∧
  (∀ (w : CommandWord) (i : Instr), decode w = .ok i →
    i.parts.rd.val = (w.extractLsb' 8 3).toNat ∧ i.parts.rs1.val = (w.extractLsb' 11 3).toNat ∧
    i.parts.rs2.val = (w.extractLsb' 14 3).toNat ∧ i.parts.rs3.val = (w.extractLsb' 17 3).toNat ∧
    i.parts.rs4.val = (w.extractLsb' 20 3).toNat)

/-- Eight words of the table of R70, one for each of eight stems, decode to the command written beside them, and that
command's text is the one in the table. -/
def Obligations.WrittenWordsDecodeToTheirCommands : Prop :=
  decode 0x00000101 = .ok (.bitcountU8 1 0) ∧ commandText (.bitcountU8 1 0) = "bitcount.u8 r1, r0" ∧
  decode 0x00000802 = .ok (.revbitsU8 0 1) ∧ commandText (.revbitsU8 0 1) = "revbits.u8 r0, r1" ∧
  decode 0x00002D63 = .ok (.ispow2F32 5 5) ∧ commandText (.ispow2F32 5 5) = "ispow2.f32 r5, r5" ∧
  decode 0x00001374 = .ok (.log2floorF64 3 2) ∧ commandText (.log2floorF64 3 2) = "log2floor.f64 r3, r2" ∧
  decode 0x00068838 = .ok (.modmulU64 0 1 2 3) ∧
  commandText (.modmulU64 0 1 2 3) = "modmul.u64 r0, r1, r2, r3" ∧
  decode 0x000688A9 = .ok (.modpowS32 0 1 2 3) ∧
  commandText (.modpowS32 0 1 2 3) = "modpow.s32 r0, r1, r2, r3" ∧
  decode 0x00C68FB9 = .ok (.modpowmS64 7 1 2 3 4) ∧
  commandText (.modpowmS64 7 1 2 3 4) = "modpowm.s64 r7, r1, r2, r3, r4" ∧
  decode 0x0000422A = .ok (.modinvU32 2 0 1) ∧ commandText (.modinvU32 2 0 1) = "modinv.u32 r2, r0, r1"

/-- R70, R71: the written form of every command assembles to the Issue of its word, and `modpow` written with five
operands is `modpowm`. -/
def Obligations.WrittenCommandsAssembleToTheirWords : Prop :=
  (∀ i : Instr, (Line.command i.stem i.format (operandList i)).txn = some (.issue (encode i))) ∧
  (∀ (F : IntFormat) (rd rs1 rs2 rs3 rs4 : Reg),
    (Line.command .modpow (.int F) [rd, rs1, rs2, rs3, rs4]).txn =
      some (.issue (encode (.modpowmInt F rd rs1 rs2 rs3 rs4))))

/-! ## Steps and transactions -/

/-- A step whose next transaction is the Issue of a word that decodes, on a block that is not halted, is exactly `exec` of
the decoded command, on the state with the transaction taken off the script (R45). -/
def Obligations.StepRunsTheDecodedCommand : Prop :=
  ∀ (s : State) (w : CommandWord) (rest : List Txn) (i : Instr),
    s.script = .issue w :: rest → s.halted = false → decode w = .ok i → step s = exec i (s.take rest)

/-- R235: every command ends and Issue always returns: a step from any state answers a next state. -/
def Obligations.EveryStepAnswersANextState : Prop :=
  ∀ s : State, ∃ t, step s = .next t

/-- R43: WriteReg writes all 128 bits of one register and changes nothing else, halted or not, and returns nothing; what
stands above the low `W` bits of an operand of a format of width `W` does not matter. -/
def Obligations.WriteRegSetsOneRegisterAndNothingElse : Prop :=
  ∀ (s : State) (rest : List Txn) (i : Reg) (v : Word), s.script = .writeReg i v :: rest →
    (∃ t, step s = .next t ∧ t.operand i = v ∧ t.written[i] = true ∧ SameRegsBut i s t ∧ t.status = s.status ∧
      t.response = none ∧ t.script = rest) ∧
    (∀ (F : IntFormat) (v' : Word), pat F.width v' = pat F.width v → value F v' = value F v) ∧
    (∀ (F : FloatFormat) (v' : Word), pat F.width v' = pat F.width v → decompose F v' = decompose F v)

/-- R44: ReadReg returns the 128-bit value of the register and changes no state, halted or not; reading twice with
nothing between returns the same value when the register has been written. -/
def Obligations.ReadRegReturnsTheRegisterAndChangesNothing : Prop :=
  (∀ (s : State) (rest : List Txn) (i : Reg), s.script = .readReg i :: rest →
    ∃ t, step s = .next t ∧ SameRegs s t ∧ t.status = s.status ∧ t.script = rest ∧
      (s.written[i] = true → t.response = some (.register s.regs[i]))) ∧
  (∀ (s : State) (rest : List Txn) (i : Reg), s.script = .readReg i :: .readReg i :: rest → s.written[i] = true →
    ∃ t u, step s = .next t ∧ step t = .next u ∧ u.response = t.response)

/-- The model's reading of "unspecified bits each time" (R29, R44, U1; log entry 2): a ReadReg of a register not written
since the last Reset returns the free value of that transaction and that register. -/
def Obligations.UnwrittenRegisterReadsAsAFreeValue : Prop :=
  ∀ (s : State) (rest : List Txn) (i : Reg), s.script = .readReg i :: rest → s.written[i] = false →
    ∃ t, step s = .next t ∧ SameRegs s t ∧ t.status = s.status ∧
      t.response = some (.register (Config.unspecifiedReg (s.fresh + 1) i))

/-- R47: ReadCSR(0) returns STATUS, ReadCSR of any other number returns 0; neither changes state, halted or not. -/
def Obligations.ReadCsrReturnsStatusForZeroAndZeroElse : Prop :=
  ∀ (s : State) (rest : List Txn) (n : Nat), s.script = .readCsr n :: rest →
    ∃ t, step s = .next t ∧ SameRegs s t ∧ t.status = s.status ∧ t.script = rest ∧
      (n = 0 → t.response = some (.csr s.status)) ∧ (n ≠ 0 → t.response = some (.csr 0))

/-- Reset clears STATUS.CODE and STATUS.FAULT, leaves every register unwritten, and the block accepts Issue again
(R29, R230). That an unwritten register reads as a free value is the model's choice (log entry 2). -/
def Obligations.ResetClearsStatusAndUnwritesRegisters : Prop :=
  ∀ (s : State) (rest : List Txn), s.script = .reset :: rest →
    ∃ t, step s = .next t ∧ t.status = 0 ∧ t.halted = false ∧ t.code = 0 ∧ t.response = none ∧ t.script = rest ∧
      ∀ r : Reg, t.written[r] = false ∧ t.operand r = Config.unspecifiedReg t.fresh r

/-- The state after Reset: STATUS is 0, no register is written, and STATUS has a value a run can reach (R25, R29). -/
def Obligations.ResetStateHasLegalStatus : Prop :=
  StatusReachable State.reset ∧ State.reset.status = 0 ∧ (∀ r : Reg, State.reset.written[r] = false)

/-- What one transaction leaves, the next one sees (R53, R234). Any transaction is performed on the state that the one
before it left. A ReadReg right after a WriteReg of the same register returns the value written. A ReadReg of RD right
after an Issue that returned OK returns what the command wrote. A ReadCSR(0) right after an Issue that was not refused
returns the STATUS with the CODE that the Issue set and returned. A command issued right after a WriteReg, or right after
a command that ended OK, reads the value just written as its operand, and every other register written since Reset as it
was. -/
def Obligations.NextTransactionSeesTheWriteBefore : Prop :=
  (∀ (s t : State) (x y : Txn) (rest : List Txn), s.script = x :: y :: rest → step s = .next t →
    step t = perform y (t.take rest)) ∧
  (∀ (s : State) (rest : List Txn) (i : Reg) (v : Word), s.script = .writeReg i v :: .readReg i :: rest →
    ∃ t u, step s = .next t ∧ step t = .next u ∧ u.response = some (.register v)) ∧
  (∀ (s t : State) (rest : List Txn) (w : CommandWord) (i : Instr), s.script = .issue w :: .readReg i.rd :: rest →
    decode w = .ok i → step s = .next t → t.response = some (.outcome .ok) →
    ∃ u, step t = .next u ∧ t.written[i.rd] = true ∧ u.response = some (.register t.regs[i.rd])) ∧
  (∀ (s : State) (rest : List Txn) (w : CommandWord), s.script = .issue w :: .readCsr 0 :: rest → s.halted = false →
    ∃ t u c, step s = .next t ∧ t.response = some (.outcome c) ∧ step t = .next u ∧
      u.response = some (.csr t.status) ∧ codeField t.status = c.number) ∧
  (∀ (s : State) (rest : List Txn) (i : Reg) (v : Word) (w : CommandWord) (j : Instr),
    s.script = .writeReg i v :: .issue w :: rest → s.halted = false → decode w = .ok j →
    ∃ t, step s = .next t ∧ step t = exec j (t.take rest) ∧ (t.take rest).operand i = v ∧
      ∀ r : Reg, r ≠ i → s.written[r] = true → (t.take rest).operand r = s.regs[r]) ∧
  (∀ (s t : State) (rest : List Txn) (w w' : CommandWord) (i j : Instr),
    s.script = .issue w :: .issue w' :: rest → decode w = .ok i → decode w' = .ok j → step s = .next t →
    t.response = some (.outcome .ok) →
    step t = exec j (t.take rest) ∧ (t.take rest).operand i.rd = t.regs[i.rd] ∧
      ∀ r : Reg, r ≠ i.rd → s.written[r] = true → (t.take rest).operand r = s.regs[r])

/-! ## The halt and the invariant of STATUS -/

/-- R207: while FAULT is 1, Issue of every word, legal or not, returns 6 and changes nothing, without decoding it;
WriteReg, ReadReg and ReadCSR work as always; STATUS reads 0x104; only Reset leaves the halted state. -/
def Obligations.HaltedBlockRefusesEveryIssue : Prop :=
  ∀ s : State, StatusReachable s → s.halted = true →
    s.status = 0x104 ∧
    (∀ (w : CommandWord) (rest : List Txn), s.script = .issue w :: rest →
      ∃ t, step s = .next t ∧ SameRegs s t ∧ t.status = s.status ∧ t.response = some (.outcome .eHalted) ∧
        t.script = rest) ∧
    (∀ (i : Reg) (v : Word) (rest : List Txn), s.script = .writeReg i v :: rest →
      step s = .next ((s.take rest).writeRegTxn i v)) ∧
    (∀ (i : Reg) (rest : List Txn), s.script = .readReg i :: rest → step s = .next ((s.take rest).readRegTxn i)) ∧
    (∀ (n : Nat) (rest : List Txn), s.script = .readCsr n :: rest → step s = .next ((s.take rest).readCsrTxn n)) ∧
    (∀ t : State, step s = .next t → t.halted = false → ∃ rest, s.script = .reset :: rest)

/-- R26: FAULT is set by a command that ends F_DIVZERO and by nothing else, and cleared by Reset and by nothing else. -/
def Obligations.OnlyDivzeroSetsAndOnlyResetClearsFault : Prop :=
  ∀ s t : State, step s = .next t →
    (s.halted = false → (t.halted = true ↔
      ∃ w rest i, s.script = .issue w :: rest ∧ decode w = .ok i ∧ t.response = some (.outcome .fDivzero))) ∧
    (s.halted = true → (t.halted = false ↔ ∃ rest, s.script = .reset :: rest))

/-- The invariant of STATUS: CODE is 0, 1, 2, 3 or 5 with FAULT 0, or 4 with FAULT 1, and the bits with no field are 0.
Every step keeps it (R25, R26, R206). -/
def Obligations.EveryStepKeepsStatusLegal : Prop :=
  ∀ s t : State, StatusReachable s → step s = .next t → StatusReachable t

/-- Every run from Reset, whatever the host's script, answers a next state at every length, with a legal STATUS (R25,
R235). -/
def Obligations.EveryRunFromResetIsSafeAndLegal : Prop :=
  ∀ (program : List Txn) (k : Nat),
    ∃ t, Sys2Proof.core.run k { State.reset with script := program } = .next t ∧ StatusReachable t ∧ StatusLegal t

/-! ## What every command changes and what it reads -/

/-- The frame of all 99 commands, with the ways a command can end (R24, R200, R203, R204, R206): only RD can change, and
only when the outcome is OK; CODE takes the outcome; FAULT is set by F_DIVZERO and by nothing else; no other bit of
STATUS, nor the script, nor the counter changes. -/
def Obligations.CommandChangesOnlyRdCodeAndFault : Prop :=
  ∀ (i : Instr) (s t : State), exec i s = .next t →
    SameRegsBut i.rd s t ∧ SameBookkeeping s t ∧ SameStatusElsewhere s t ∧
    ∃ c : Code, t.response = some (.outcome c) ∧ t.code = c.number ∧ c ≠ .eIllegal ∧ c ≠ .eHalted ∧
      (c = .ok → t.written[i.rd] = true) ∧ (c ≠ .ok → SameRegs s t) ∧
      (t.halted = true ↔ s.halted = true ∨ c = .fDivzero)

/-- Which command can raise which outcome (the table of R201). -/
def Obligations.EachFamilyRaisesOnlyItsOwnOutcomes : Prop :=
  ∀ (i : Instr) (s t : State) (c : Code), exec i s = .next t → t.response = some (.outcome c) →
    match i.stem, i.format with
    | .bitcount, _ | .revbits, _ | .ispow2, _ => c = .ok
    | .log2floor, .int _ | .log2ceil, .int _ => c = .ok ∨ c = .eNonpos
    | .log2floor, .float _ | .log2ceil, .float _ => c = .ok ∨ c = .eNonpos ∨ c = .eNonfinite
    | .modmul, _ => c = .ok ∨ c = .fDivzero
    | .modpow, _ | .modpowm, _ | .modinv, _ => c = .ok ∨ c = .eNoinv ∨ c = .fDivzero

/-- Every command is a function of the low `W` bits of the registers it names as sources (R5, R22): two states that agree
on those give the same outcome and, when it is OK, the same RD, whatever else differs: STATUS, the other registers, the
bits above `W`. -/
def Obligations.OutcomeDependsOnSourceBitsAlone : Prop :=
  ∀ (i : Instr) (s s' t t' : State),
    (∀ r ∈ i.sources, pat i.format.width (s.operand r) = pat i.format.width (s'.operand r)) →
    exec i s = .next t → exec i s' = .next t' →
    t.response = t'.response ∧ (t.response = some (.outcome .ok) → t.regs[i.rd] = t'.regs[i.rd])

/-! ## Operands and results -/

/-- The value of a register in an integer format (R10): the low `W` bits as an unsigned number, less `2^W` when the format
is signed and bit `W-1` is 1. -/
def Obligations.ValueIsUnsignedOrTwosComplement : Prop :=
  ∀ (F : IntFormat) (p : Word),
    value F p =
      (if F.signed = true ∧ p.getLsbD (F.width - 1) = true then ((p.toNat % 2 ^ F.width : Nat) : Int) - 2 ^ F.width
       else ((p.toNat % 2 ^ F.width : Nat) : Int))

/-- The register image of a logarithm result is the number itself in two's complement on 128 bits (R24 (c)), for every
number of 32 bits. -/
def Obligations.LogarithmImageIsTheNumberSignExtended : Prop :=
  ∀ n : Int, -(2 ^ 31) ≤ n → n < 2 ^ 31 → (logResult n).toInt = n

/-- The decomposer takes a float's pattern apart without loss (R121): sign, exponent field and mantissa field put together
are the pattern, and each field is within its width. -/
def Obligations.FloatFieldsPutTogetherAreThePattern : Prop :=
  ∀ (F : FloatFormat) (p : Word),
    (decompose F p).m < 2 ^ F.mb ∧ (decompose F p).e ≤ F.emax ∧
    (pat F.width p).toNat =
      (decompose F p).m + 2 ^ F.mb * (decompose F p).e + 2 ^ (F.width - 1) * (decompose F p).s.toNat

/-- R123: the single-bit test is true exactly of the numbers with one 1 bit, and false of 0. -/
def Obligations.OnebitIsTheSingleBitTest : Prop :=
  (∀ n : Nat, onebit n = true ↔ 0 < n ∧ n &&& (n - 1) = 0) ∧
  (∀ n : Nat, onebit n = true ↔ ∃ k : Nat, n = 2 ^ k) ∧
  (∀ (W : Nat) (x : BitVec W), onebit x.toNat = true ↔ popcount x = 1) ∧
  onebit 0 = false

/-- R140: `clz_W(p)` is the least `k` with `p[W-1-k] = 1`, which is `W - bitlen(p)`, and `W` for the zero pattern. -/
def Obligations.ClzCountsTheZerosAboveTheHighestOne : Prop :=
  (∀ (W : Nat) (p : BitVec W), p ≠ 0 →
    clz p < W ∧ p.getLsbD (W - 1 - clz p) = true ∧ (∀ k < clz p, p.getLsbD (W - 1 - k) = false) ∧
    clz p = W - bitlen p.toNat) ∧
  (∀ W : Nat, clz (0 : BitVec W) = W)

/-- R142: the two integer logarithms are the index of the highest 1 bit and the least exponent that reaches `n`. -/
def Obligations.IntegerLogarithmsBracketTheirArgument : Prop :=
  (∀ n : Nat, 0 < n → ilog2floor n = bitlen n - 1 ∧ 2 ^ ilog2floor n ≤ n ∧ n < 2 ^ (ilog2floor n + 1)) ∧
  ilog2ceil 1 = 0 ∧
  (∀ n : Nat, 1 < n → ilog2ceil n = bitlen (n - 1) ∧ 2 ^ (ilog2ceil n - 1) < n ∧ n ≤ 2 ^ ilog2ceil n)

/-- R101: the mask constants of the five widths. -/
def Obligations.MaskConstantsAreTheTables : Prop :=
  mask 8 1 = 0x55 ∧ mask 8 2 = 0x33 ∧ mask 8 4 = 0x0F ∧
  mask 16 1 = 0x5555 ∧ mask 16 2 = 0x3333 ∧ mask 16 4 = 0x0F0F ∧ mask 16 8 = 0x00FF ∧
  mask 32 1 = 0x55555555 ∧ mask 32 2 = 0x33333333 ∧ mask 32 4 = 0x0F0F0F0F ∧ mask 32 8 = 0x00FF00FF ∧
  mask 32 16 = 0x0000FFFF ∧
  mask 64 1 = 0x5555555555555555 ∧ mask 64 2 = 0x3333333333333333 ∧ mask 64 4 = 0x0F0F0F0F0F0F0F0F ∧
  mask 64 8 = 0x00FF00FF00FF00FF ∧ mask 64 16 = 0x0000FFFF0000FFFF ∧ mask 64 32 = 0x00000000FFFFFFFF ∧
  mask 128 1 = 0x55555555555555555555555555555555 ∧ mask 128 2 = 0x33333333333333333333333333333333 ∧
  mask 128 4 = 0x0F0F0F0F0F0F0F0F0F0F0F0F0F0F0F0F ∧ mask 128 8 = 0x00FF00FF00FF00FF00FF00FF00FF00FF ∧
  mask 128 16 = 0x0000FFFF0000FFFF0000FFFF0000FFFF ∧ mask 128 32 = 0x00000000FFFFFFFF00000000FFFFFFFF ∧
  mask 128 64 = 0x0000000000000000FFFFFFFFFFFFFFFF

/-! ## BitOps -/

/-- R102: the ten commands `bitcount.<fmt>` (`bitcountU8` to `bitcountS128`) write the number of 1 bits of the low `W`
bits of RS1, zero-extended, and end OK, from every state; and the words they have. -/
def Obligations.BitcountWritesTheNumberOfSetBits : Prop :=
  ∀ (F : IntFormat) (rd rs1 : Reg) (s : State),
    exec (.bitcountInt F rd rs1) s =
      .next (s.finishOk rd (BitVec.ofNat 128 (popcount (pat F.width (s.operand rs1))))) ∧
    (encode (.bitcountInt F rd rs1)).toNat = wordNumber 1 (intFmt F) rd rs1 0 0 0 0

/-- R103: BITCOUNT of all ones is `W`, of zero 0, of a single bit 1; and it is the same in a signed format and the
unsigned format of its width. -/
def Obligations.BitcountOfAllOnesZeroAndSingleBits : Prop :=
  ∀ (F : IntFormat) (rd rs1 : Reg) (s : State),
    (pat F.width (s.operand rs1) = BitVec.allOnes F.width →
      exec (.bitcountInt F rd rs1) s = .next (s.finishOk rd (BitVec.ofNat 128 F.width))) ∧
    (pat F.width (s.operand rs1) = 0 → exec (.bitcountInt F rd rs1) s = .next (s.finishOk rd 0)) ∧
    (∀ k < F.width, pat F.width (s.operand rs1) = BitVec.twoPow F.width k →
      exec (.bitcountInt F rd rs1) s = .next (s.finishOk rd 1)) ∧
    (∀ G : IntFormat, G.width = F.width → exec (.bitcountInt F rd rs1) s = exec (.bitcountInt G rd rs1) s)

/-- R104: the ten commands `revbits.<fmt>` (`revbitsU8` to `revbitsS128`) write the `W`-bit pattern whose bit `i` is bit
`W-1-i` of RS1, zero-extended, and end OK, from every state; and the words they have. -/
def Obligations.RevbitsReversesTheBitOrder : Prop :=
  ∀ (F : IntFormat) (rd rs1 : Reg) (s : State),
    (∃ v : Word, exec (.revbitsInt F rd rs1) s = .next (s.finishOk rd v) ∧
      (∀ i < F.width, v.getLsbD i = (s.operand rs1).getLsbD (F.width - 1 - i)) ∧
      (∀ i, F.width ≤ i → v.getLsbD i = false)) ∧
    (encode (.revbitsInt F rd rs1)).toNat = wordNumber 2 (intFmt F) rd rs1 0 0 0 0

/-- R105: two REVBITS of the same width, so of the same format too, the second on the result of the first, bring the
pattern back. At two different widths they do not: 1 reversed at width `a` and then at width `b` is `2^(b-a)` when `a < b`
and 0 when `a > b`, and so is not 1 at either width. -/
def Obligations.RevbitsTwiceRestoresThePattern : Prop :=
  (∀ (F G : IntFormat) (rd rd' rs1 : Reg) (s t : State), G.width = F.width → exec (.revbitsInt F rd rs1) s = .next t →
    exec (.revbitsInt G rd' rd) t =
      .next (t.finishOk rd' (patternResult (pat F.width (s.operand rs1))))) ∧
  (∀ (F G : IntFormat) (rd rd' rs1 : Reg) (s t : State), G.width ≠ F.width → pat F.width (s.operand rs1) = 1 →
    exec (.revbitsInt F rd rs1) s = .next t →
    ∃ v : Word, exec (.revbitsInt G rd' rd) t = .next (t.finishOk rd' v) ∧
      v = (if F.width < G.width then BitVec.twoPow 128 (G.width - F.width) else 0) ∧
      pat F.width v ≠ 1 ∧ pat G.width v ≠ 1)

/-- R124: the ten commands `ispow2.<fmt>` of integer formats (`ispow2U8` to `ispow2S128`) write 1 when the value of RS1
is a positive power of two and else 0, and end OK, from every state; and the words they have. -/
def Obligations.Ispow2OfAnIntegerIsThePowerOfTwoTest : Prop :=
  ∀ (F : IntFormat) (rd rs1 : Reg) (s : State),
    (∃ b : Bool, exec (.ispow2Int F rd rs1) s = .next (s.finishOk rd (if b then 1 else 0)) ∧
      (b = true ↔ ∃ k : Nat, value F (s.operand rs1) = 2 ^ k)) ∧
    (encode (.ispow2Int F rd rs1)).toNat = wordNumber 3 (intFmt F) rd rs1 0 0 0 0

/-- R125, R126: the three commands `ispow2.<fmt>` of float formats (`ispow2F16`, `ispow2F32`, `ispow2F64`) write 1 when the
pattern is of a finite number that is an exact power of two, subnormal ones included, and else 0, and end OK, from every
state; and the words they have. -/
def Obligations.Ispow2OfAFloatIsThePowerOfTwoTest : Prop :=
  ∀ (F : FloatFormat) (rd rs1 : Reg) (s : State),
    (∃ b : Bool, exec (.ispow2Float F rd rs1) s = .next (s.finishOk rd (if b then 1 else 0)) ∧
      (b = true ↔ (decompose F (s.operand rs1)).e ≠ F.emax ∧
        ∃ k : Int, realValue F (decompose F (s.operand rs1)) = (2 : ℚ) ^ k)) ∧
    (encode (.ispow2Float F rd rs1)).toNat = wordNumber 3 (floatFmt F) rd rs1 0 0 0 0

/-- R141, R143, R144: the ten commands `log2floor.<fmt>` of integer formats (`log2floorU8` to `log2floorS128`) write
`floor(log2(v))` of the value of RS1 and end OK when it is positive, and else end E_NONPOS with no register written; and
the words they have. -/
def Obligations.Log2floorOfAnIntegerIsTheFloor : Prop :=
  ∀ (F : IntFormat) (rd rs1 : Reg) (s : State),
    (0 < value F (s.operand rs1) → ∃ n : Nat,
      exec (.log2floorInt F rd rs1) s = .next (s.finishOk rd (logResult n)) ∧
      (2 : Int) ^ n ≤ value F (s.operand rs1) ∧ value F (s.operand rs1) < 2 ^ (n + 1)) ∧
    (value F (s.operand rs1) ≤ 0 → exec (.log2floorInt F rd rs1) s = .next (s.raiseError .eNonpos)) ∧
    (encode (.log2floorInt F rd rs1)).toNat = wordNumber 4 (intFmt F) rd rs1 0 0 0 0

/-- R141, R146, R147: the ten commands `log2ceil.<fmt>` of integer formats (`log2ceilU8` to `log2ceilS128`) write
`ceil(log2(v))` of the value of RS1 and end OK when it is positive, and else end E_NONPOS with no register written; and
the words they have. -/
def Obligations.Log2ceilOfAnIntegerIsTheCeiling : Prop :=
  ∀ (F : IntFormat) (rd rs1 : Reg) (s : State),
    (0 < value F (s.operand rs1) → ∃ n : Nat,
      exec (.log2ceilInt F rd rs1) s = .next (s.finishOk rd (logResult n)) ∧
      value F (s.operand rs1) ≤ 2 ^ n ∧ (n = 0 ∨ (2 : Int) ^ (n - 1) < value F (s.operand rs1))) ∧
    (value F (s.operand rs1) ≤ 0 → exec (.log2ceilInt F rd rs1) s = .next (s.raiseError .eNonpos)) ∧
    (encode (.log2ceilInt F rd rs1)).toNat = wordNumber 5 (intFmt F) rd rs1 0 0 0 0

/-- R148: for every positive value the ceiling equals the floor when the value has one bit, else it is one more; the
logarithm lies between the two, and they are equal exactly for a power of two. -/
def Obligations.Log2ceilIsLog2floorOrOneMore : Prop :=
  ∀ (F : IntFormat) (rd rs1 : Reg) (s : State), 0 < value F (s.operand rs1) →
    ∃ n c : Nat, exec (.log2floorInt F rd rs1) s = .next (s.finishOk rd (logResult n)) ∧
      exec (.log2ceilInt F rd rs1) s = .next (s.finishOk rd (logResult c)) ∧
      c = (if onebit (value F (s.operand rs1)).toNat then n else n + 1) ∧
      (2 : Int) ^ n ≤ value F (s.operand rs1) ∧ value F (s.operand rs1) ≤ 2 ^ c ∧
      (n = c ↔ ∃ k : Nat, value F (s.operand rs1) = 2 ^ k)

/-- R150, R151: the three commands `log2floor.<fmt>` of float formats (`log2floorF16`, `log2floorF32`, `log2floorF64`)
write `floor(log2(value))` of a positive finite number, subnormal ones included; they end E_NONPOS on a value `<= 0` and
E_NONFINITE on +infinity and every NaN, with no register written; and the words they have. -/
def Obligations.Log2floorOfAFloatIsTheFloor : Prop :=
  ∀ (F : FloatFormat) (rd rs1 : Reg) (s : State),
    (PositiveFinite F (decompose F (s.operand rs1)) → ∃ n : Int,
      exec (.log2floorFloat F rd rs1) s = .next (s.finishOk rd (logResult n)) ∧
      (2 : ℚ) ^ n ≤ realValue F (decompose F (s.operand rs1)) ∧
      realValue F (decompose F (s.operand rs1)) < (2 : ℚ) ^ (n + 1)) ∧
    (NotAboveZero F (decompose F (s.operand rs1)) →
      exec (.log2floorFloat F rd rs1) s = .next (s.raiseError .eNonpos)) ∧
    (NotFinite F (decompose F (s.operand rs1)) →
      exec (.log2floorFloat F rd rs1) s = .next (s.raiseError .eNonfinite)) ∧
    (encode (.log2floorFloat F rd rs1)).toNat = wordNumber 4 (floatFmt F) rd rs1 0 0 0 0

/-- R150, R153: the three commands `log2ceil.<fmt>` of float formats (`log2ceilF16`, `log2ceilF32`, `log2ceilF64`) write
`ceil(log2(value))` of a positive finite number, subnormal ones included; they end E_NONPOS on a value `<= 0` and
E_NONFINITE on +infinity and every NaN, with no register written; and the words they have. -/
def Obligations.Log2ceilOfAFloatIsTheCeiling : Prop :=
  ∀ (F : FloatFormat) (rd rs1 : Reg) (s : State),
    (PositiveFinite F (decompose F (s.operand rs1)) → ∃ n : Int,
      exec (.log2ceilFloat F rd rs1) s = .next (s.finishOk rd (logResult n)) ∧
      (2 : ℚ) ^ (n - 1) < realValue F (decompose F (s.operand rs1)) ∧
      realValue F (decompose F (s.operand rs1)) ≤ (2 : ℚ) ^ n) ∧
    (NotAboveZero F (decompose F (s.operand rs1)) →
      exec (.log2ceilFloat F rd rs1) s = .next (s.raiseError .eNonpos)) ∧
    (NotFinite F (decompose F (s.operand rs1)) →
      exec (.log2ceilFloat F rd rs1) s = .next (s.raiseError .eNonfinite)) ∧
    (encode (.log2ceilFloat F rd rs1)).toNat = wordNumber 5 (floatFmt F) rd rs1 0 0 0 0

/-- R155: the greatest double has floor 1023 and ceiling 1024. -/
def Obligations.GreatestDoubleHasFloor1023AndCeiling1024 : Prop :=
  ∀ (rd rs1 : Reg) (s : State), pat 64 (s.operand rs1) = 0x7FEFFFFFFFFFFFFF →
    exec (.log2floorF64 rd rs1) s = .next (s.finishOk rd 1023) ∧
    exec (.log2ceilF64 rd rs1) s = .next (s.finishOk rd 1024)

/-- Every logarithm result of an integer format is in the range R158 gives its command and format. -/
def Obligations.IntegerLogarithmsAreInRange : Prop :=
  ∀ (F : IntFormat) (rd rs1 : Reg) (s : State), 0 < value F (s.operand rs1) →
    ∃ n k : Int, exec (.log2floorInt F rd rs1) s = .next (s.finishOk rd (logResult n)) ∧
      exec (.log2ceilInt F rd rs1) s = .next (s.finishOk rd (logResult k)) ∧
      0 ≤ n ∧ n ≤ F.width - (if F.signed then 2 else 1) ∧ 0 ≤ k ∧ k ≤ F.width - (if F.signed then 1 else 0)

/-- Every logarithm result of a float format is in the range R158 gives its command and format. -/
def Obligations.FloatLogarithmsAreInRange : Prop :=
  ∀ (F : FloatFormat) (rd rs1 : Reg) (s : State), PositiveFinite F (decompose F (s.operand rs1)) →
    ∃ n k : Int, exec (.log2floorFloat F rd rs1) s = .next (s.finishOk rd (logResult n)) ∧
      exec (.log2ceilFloat F rd rs1) s = .next (s.finishOk rd (logResult k)) ∧
      1 - (F.bias : Int) - F.mb ≤ n ∧ n ≤ F.bias ∧ 1 - (F.bias : Int) - F.mb ≤ k ∧ k ≤ F.bias + 1

/-! ## ModArith -/

/-- R171: a zero modulus is the fatal fault in every ModArith command, whatever the other operands are: no register is
written, CODE is 4, FAULT is 1, and the response is 4. -/
def Obligations.ZeroModulusIsTheFatalFault : Prop :=
  ∀ (F : IntFormat) (rd r1 r2 r3 r4 : Reg) (s : State), value F (s.operand r1) = 0 →
    exec (.modmulInt F rd r1 r2 r3) s = .next s.raiseFatal ∧
    exec (.modpowInt F rd r1 r2 r3) s = .next s.raiseFatal ∧
    exec (.modpowmInt F rd r1 r2 r3 r4) s = .next s.raiseFatal ∧
    exec (.modinvInt F rd r1 r2) s = .next s.raiseFatal ∧
    SameRegs s s.raiseFatal ∧ SameBookkeeping s s.raiseFatal ∧ s.raiseFatal.code = 4 ∧
    s.raiseFatal.halted = true ∧ s.raiseFatal.response = some (.outcome .fDivzero)

/-- R172: the ten commands `modmul.<fmt>` (`modmulU8` to `modmulS128`) write the canonical residue of the exact product
`a*b` modulo `M = abs(mod)` and end OK when `M` is not 0, and else end with the fatal fault; and the words they have. -/
def Obligations.ModmulIsTheResidueOfTheExactProduct : Prop :=
  ∀ (F : IntFormat) (rd r1 r2 r3 : Reg) (s : State),
    (value F (s.operand r1) ≠ 0 →
      exec (.modmulInt F rd r1 r2 r3) s =
        .next (s.finishOk rd (BitVec.ofInt 128
          ((value F (s.operand r2) * value F (s.operand r3)) % |value F (s.operand r1)|)))) ∧
    (value F (s.operand r1) = 0 → exec (.modmulInt F rd r1 r2 r3) s = .next s.raiseFatal) ∧
    (encode (.modmulInt F rd r1 r2 r3)).toNat = wordNumber 8 (intFmt F) rd r1 r2 r3 0 0

/-- R182: the ten commands `modpow.<fmt>` (`modpowU8` to `modpowS128`) compute `base^exponent` modulo `abs(mod)`, through
the inverse for a negative exponent, with the outcomes of `PowerResidue`; and the words they have. -/
def Obligations.ModpowIsTheResidueOfThePower : Prop :=
  ∀ (F : IntFormat) (rd r1 r2 r3 : Reg) (s : State),
    PowerResidue s rd (value F (s.operand r1)).natAbs (value F (s.operand r2)) (value F (s.operand r3)) 1
      (exec (.modpowInt F rd r1 r2 r3) s) ∧
    (encode (.modpowInt F rd r1 r2 r3)).toNat = wordNumber 9 (intFmt F) rd r1 r2 r3 0 0

/-- R183: the ten commands `modpowm.<fmt>` (`modpowmU8` to `modpowmS128`) compute `multiplier*base^exponent` modulo
`abs(mod)`, through the inverse for a negative exponent, with the outcomes of `PowerResidue`; with multiplier 1 they end as
`modpow`; and the words they have. -/
def Obligations.ModpowmIsTheResidueOfTheMultipliedPower : Prop :=
  ∀ (F : IntFormat) (rd r1 r2 r3 r4 : Reg) (s : State),
    PowerResidue s rd (value F (s.operand r1)).natAbs (value F (s.operand r2)) (value F (s.operand r3))
      (value F (s.operand r4)) (exec (.modpowmInt F rd r1 r2 r3 r4) s) ∧
    (value F (s.operand r4) = 1 → exec (.modpowmInt F rd r1 r2 r3 r4) s = exec (.modpowInt F rd r1 r2 r3) s) ∧
    (encode (.modpowmInt F rd r1 r2 r3 r4)).toNat = wordNumber 9 (intFmt F) rd r1 r2 r3 r4 1

/-- R186: ModPow with a negative exponent equals ModPow of the inverse raised to the negated exponent; with exponent -1 it
equals ModInverse, as for mod 17 and base 13, where both are 4. -/
def Obligations.NegativeExponentIsThePowerOfTheInverse : Prop :=
  (∀ (F : IntFormat) (md b e x e' : Word), value F e < 0 → modinv F md b = .ok x → value F e' = -value F e →
    modpow F md b e = modpow F md x e') ∧
  (∀ (F : IntFormat) (rd r1 r2 r3 : Reg) (s : State), value F (s.operand r3) = -1 →
    exec (.modpowInt F rd r1 r2 r3) s = exec (.modinvInt F rd r1 r2) s) ∧
  (∀ (F : IntFormat) (rd r1 r2 : Reg) (s : State), value F (s.operand r1) = 17 → value F (s.operand r2) = 13 →
    exec (.modinvInt F rd r1 r2) s = .next (s.finishOk rd 4))

/-- R192: the ten commands `modinv.<fmt>` (`modinvU8` to `modinvS128`) write the inverse of `num` modulo `abs(mod)`, in
`0 .. M-1`, when the two are coprime, end E_NOINV when they are not, and with the fatal fault for a zero modulus; and the
words they have. -/
def Obligations.ModinvIsTheInverse : Prop :=
  ∀ (F : IntFormat) (rd r1 r2 : Reg) (s : State),
    InverseResidue s rd (value F (s.operand r1)).natAbs (value F (s.operand r2)) (exec (.modinvInt F rd r1 r2) s) ∧
    (encode (.modinvInt F rd r1 r2)).toNat = wordNumber 10 (intFmt F) rd r1 r2 0 0 0

/-- R195: the inverse of the inverse is `cmod(a, M)` for `M > 1` and coprime operands; a gcd above 1 is E_NOINV; the
inverse of 13 modulo 7 is 6. Both commands name the modulus register, so it must hold a written value: a register not
written since Reset has unspecified bits each time (R29, R44). It is not the RD of the first command, which would overwrite
the modulus. -/
def Obligations.InverseOfTheInverseIsTheResidue : Prop :=
  (∀ (F : IntFormat) (rd rd' r1 r2 : Reg) (s t : State), rd ≠ r1 → s.written[r1] = true →
    1 < |value F (s.operand r1)| →
    Int.gcd (value F (s.operand r2)) (value F (s.operand r1)) = 1 → exec (.modinvInt F rd r1 r2) s = .next t →
    exec (.modinvInt F rd' r1 rd) t =
      .next (t.finishOk rd' (BitVec.ofInt 128 (value F (s.operand r2) % |value F (s.operand r1)|)))) ∧
  (∀ (F : IntFormat) (rd r1 r2 : Reg) (s : State), value F (s.operand r1) ≠ 0 →
    1 < Int.gcd (value F (s.operand r2)) (value F (s.operand r1)) →
    exec (.modinvInt F rd r1 r2) s = .next (s.raiseError .eNoinv)) ∧
  (∀ (F : IntFormat) (rd r1 r2 : Reg) (s : State), value F (s.operand r1) = 7 → value F (s.operand r2) = 13 →
    exec (.modinvInt F rd r1 r2) s = .next (s.finishOk rd 6))

/-- R174: `ModMul(m, ModInverse(m, a), a)` is 1 for every `a` coprime with `m`, of either sign, as long as `M > 1`; for
`M = 1` it is 0. Both commands name the registers of `m` and `a`, so these must hold written values: a register not written
since Reset has unspecified bits each time (R29, R44). -/
def Obligations.ModmulOfAnOperandAndItsInverseIsOne : Prop :=
  ∀ (F : IntFormat) (rd rd' r1 r2 : Reg) (s t : State), rd ≠ r1 → rd ≠ r2 → s.written[r1] = true →
    s.written[r2] = true → value F (s.operand r1) ≠ 0 →
    Int.gcd (value F (s.operand r2)) (value F (s.operand r1)) = 1 → exec (.modinvInt F rd r1 r2) s = .next t →
    exec (.modmulInt F rd' r1 rd r2) t =
      .next (t.finishOk rd' (if |value F (s.operand r1)| = 1 then 0 else 1))

/-- R170: the modulus counts by its magnitude, so `mod` and `-mod` end every ModArith command alike. -/
def Obligations.ModulusCountsByItsMagnitude : Prop :=
  ∀ (F : IntFormat) (md md' a b k : Word), value F md' = -value F md →
    modmul F md a b = modmul F md' a b ∧ modpow F md a b = modpow F md' a b ∧
    modpowm F md a b k = modpowm F md' a b k ∧ modinv F md a = modinv F md' a
end

