-- ==== Sys2Proof/Laws/Decode.lean ====
section
/-! SUPPORT. The word layout loses nothing, and the decoder reads back the fields the encoder writes. -/

namespace Sys2Proof

/-- Taking the fields of a word and putting them together gives the word (R61). -/
theorem wordOf_fieldsOf (w : CommandWord) : wordOf (fieldsOf w) = w := by
  apply BitVec.eq_of_getLsbD_eq
  intro i hi
  simp only [wordOf, fieldsOf, BitVec.getLsbD_append, BitVec.getLsbD_extractLsb']
  interval_cases i <;> simp

/-- The fields of a word put together from fields are those fields (R61). -/
theorem fieldsOf_wordOf (f : Fields) : fieldsOf (wordOf f) = f := by
  obtain ⟨op, fmt, rd, rs1, rs2, rs3, rs4, m, z⟩ := f
  simp only [fieldsOf, Fields.mk.injEq]
  refine ⟨?_, ?_, ?_, ?_, ?_, ?_, ?_, ?_, ?_⟩ <;>
    (apply BitVec.eq_of_getLsbD_eq
     intro i hi
     simp only [wordOf, BitVec.getLsbD_append, BitVec.getLsbD_extractLsb']
     interval_cases i <;> simp)

theorem decode_wordOf (f : Fields) : decode (wordOf f) = decodeFields f := by
  rw [decode, fieldsOf_wordOf]

/-- A word as a number, field by field (R61). -/
theorem toNat_wordOf (f : Fields) : (wordOf f).toNat =
    f.op.toNat + 16 * f.fmt.toNat + 256 * f.rd.toNat + 2048 * f.rs1.toNat + 16384 * f.rs2.toNat +
      131072 * f.rs3.toNat + 1048576 * f.rs4.toNat + 8388608 * f.m.toNat + 16777216 * f.zero.toNat := by
  have app : ∀ (a b : Nat) (x : BitVec a) (y : BitVec b), (x ++ y).toNat = y.toNat + 2 ^ b * x.toNat := fun a b x y => by
    rw [BitVec.toNat_append, Nat.shiftLeft_eq, Nat.mul_comm, ← Nat.two_pow_add_eq_or_of_lt y.isLt, Nat.add_comm]
  simp only [wordOf, app]
  omega

/-- The word of a command as a number (R70). -/
theorem toNat_encode (i : Instr) : (encode i).toNat =
    i.parts.stem.code.toNat + 16 * i.parts.fmt.code.toNat + 256 * i.parts.rd.val + 2048 * i.parts.rs1.val +
      16384 * i.parts.rs2.val + 131072 * i.parts.rs3.val + 1048576 * i.parts.rs4.val +
      8388608 * i.parts.stem.mBit.toNat := by
  rw [encode, toNat_wordOf]
  simp [Parts.fields]

/-- A format code names the format that has it (R63). -/
theorem formatOf_some {c : BitVec 4} {F : Format} (h : formatOf c = some F) : F.code = c := by
  unfold formatOf at h
  split at h <;> simp only [Option.some.injEq, reduceCtorEq] at h <;> subst h <;>
    exact BitVec.eq_of_toNat_eq (by simp [Format.code, *])

/-- An operation code names the operation that has it (R62). -/
theorem stemOf_some {op : BitVec 4} {m : BitVec 1} {st : Stem} (h : stemOf op m = some st) : st.code = op := by
  unfold stemOf at h
  split at h <;> (try split at h) <;> simp only [Option.some.injEq, reduceCtorEq] at h <;> subst h <;>
    exact BitVec.eq_of_toNat_eq (by simp [Stem.code, *])

@[simp] theorem stemOf_code (st : Stem) : stemOf st.code st.mBit = some st := by
  cases st <;> rfl

@[simp] theorem formatOf_code (F : Format) : formatOf F.code = some F := by
  cases F with
  | int f => cases f <;> rfl
  | float f => cases f <;> rfl

end Sys2Proof
end

