-- ==== Sys2Proof/Laws/Domain.lean ====
section
/-! SUPPORT. The domain check of the logarithms of a float (R150), class by class. -/

namespace Sys2Proof.Machine

open Sys2Proof.Safety

theorem FloatFormat.emax_pos (F : FloatFormat) : 0 < F.emax := by
  cases F <;> decide

/-- A positive finite number passes the check: its sign is 0, its exponent field is not all ones, and it is not zero. -/
theorem floatDomain_of_positiveFinite {F : FloatFormat} {d : FloatParts} (h : PositiveFinite F d) :
    floatDomain F d = none ∧ d.s = false ∧ d.e ≠ F.emax ∧ (d.e = 0 → d.m ≠ 0) := by
  obtain ⟨hs, h⟩ := h
  have := FloatFormat.emax_pos F
  unfold classify at h
  unfold floatDomain
  by_cases h0 : d.e = 0
  · by_cases hm : d.m = 0
    · simp [h0, hm] at h
    · simp [hs, h0, hm]; omega
  · by_cases he : d.e = F.emax
    · rw [if_neg h0, if_pos he] at h
      by_cases hm : d.m = 0 <;> simp [hm] at h
    · simp [h0, he, hs]

/-- A value that compares `<= 0` fails the first test. -/
theorem floatDomain_of_notAboveZero {F : FloatFormat} {d : FloatParts} (h : NotAboveZero F d) :
    floatDomain F d = some .nonpos := by
  have := FloatFormat.emax_pos F
  unfold NotAboveZero classify at h
  unfold floatDomain
  by_cases h0 : d.e = 0 <;> by_cases hm : d.m = 0 <;> by_cases he : d.e = F.emax <;> simp_all

/-- What passes the first test and is not finite fails the second. -/
theorem floatDomain_of_notFinite {F : FloatFormat} {d : FloatParts} (h : NotFinite F d) :
    floatDomain F d = some .nonfinite := by
  have := FloatFormat.emax_pos F
  unfold NotFinite classify at h
  unfold floatDomain
  by_cases h0 : d.e = 0 <;> by_cases hm : d.m = 0 <;> by_cases he : d.e = F.emax <;> simp_all

/-- A logarithm whose domain check passes ends OK with the result image. -/
@[simp] theorem logEnding_none (n : Int) : logEnding none n = .ok (logResult n) := rfl

/-- A logarithm whose domain check fails ends with that error. -/
@[simp] theorem logEnding_some (e : DomainError) (n : Int) : logEnding (some e) n = .domain e := rfl

end Sys2Proof.Machine
end

