-- ==== Sys2Proof/Laws/Operands.lean ====
section
/-! SUPPORT. Values and residues: the range of a format's values (R10), what a pattern result is as a number, and the
test every ModArith command begins with (R171). -/

namespace Sys2Proof.Machine

theorem IntFormat.width_pos (F : IntFormat) : 0 < F.width := by
  cases F <;> decide

theorem IntFormat.width_le (F : IntFormat) : F.width ≤ 128 := by
  cases F <;> decide

theorem toNat_pat (W : Nat) (p : Word) : (pat W p).toNat = p.toNat % 2 ^ W := by
  rw [pat, BitVec.toNat_setWidth]

/-- A value depends on the low `W` bits of the register only (R10, R22). -/
theorem value_congr (F : IntFormat) {p q : Word} (h : pat F.width p = pat F.width q) : value F p = value F q := by
  simp only [value, h]

theorem value_unsigned {F : IntFormat} (h : F.signed = false) (p : Word) :
    value F p = ((p.toNat % 2 ^ F.width : Nat) : Int) := by
  simp [value, h, toNat_pat]

theorem value_signed {F : IntFormat} (h : F.signed = true) (p : Word) : value F p = (pat F.width p).toInt := by
  simp [value, h]

/-- The least and the greatest value of a format (R10). -/
theorem value_bounds (F : IntFormat) (p : Word) :
    (if F.signed then -(2 ^ (F.width - 1)) else 0) ≤ value F p ∧
      value F p < if F.signed then (2 : Int) ^ (F.width - 1) else 2 ^ F.width := by
  cases hs : F.signed with
  | false =>
    rw [value_unsigned hs]
    have := Nat.mod_lt p.toNat (show 0 < 2 ^ F.width by positivity)
    refine ⟨Int.natCast_nonneg _, ?_⟩
    simp only [Bool.false_eq_true, if_false]
    exact_mod_cast this
  | true =>
    rw [value_signed hs]
    exact ⟨BitVec.le_toInt _, BitVec.toInt_lt⟩

/-- The modulus magnitude of a `W`-bit format fits in `W` bits, and in `W-1` bits plus one when the format is signed
(R170). -/
theorem modulus_le (F : IntFormat) (p : Word) :
    modulus F p ≤ if F.signed then 2 ^ (F.width - 1) else 2 ^ F.width - 1 := by
  have h := value_bounds F p
  unfold modulus
  cases hs : F.signed with
  | false =>
    simp only [hs, Bool.false_eq_true, if_false] at h ⊢
    have e : ((2 ^ F.width : Nat) : Int) = 2 ^ F.width := by push_cast; rfl
    omega
  | true =>
    simp only [hs, if_true] at h ⊢
    have e : ((2 ^ (F.width - 1) : Nat) : Int) = 2 ^ (F.width - 1) := by push_cast; rfl
    omega

theorem natAbs_value_lt (F : IntFormat) (p : Word) : (value F p).natAbs < 2 ^ F.width := by
  have h := modulus_le F p
  unfold modulus at h
  have h0 : 0 < 2 ^ F.width := by positivity
  have h1 : 2 ^ (F.width - 1) < 2 ^ F.width :=
    Nat.pow_lt_pow_right (by omega) (by have := IntFormat.width_pos F; omega)
  split at h <;> omega

theorem modulus_lt (F : IntFormat) (p : Word) : modulus F p < 2 ^ F.width :=
  natAbs_value_lt F p

/-- The pattern result of a residue is the residue as a 128-bit number (R24 (a)). -/
theorem residueResult_eq (F : IntFormat) {q : Int} (h0 : 0 ≤ q) (h : q < 2 ^ F.width) :
    residueResult F q = BitVec.ofInt 128 q := by
  obtain ⟨n, rfl⟩ := Int.eq_ofNat_of_zero_le h0
  have hn : n < 2 ^ F.width := by exact_mod_cast h
  have h128 : 2 ^ F.width ≤ 2 ^ 128 := Nat.pow_le_pow_right (by omega) (IntFormat.width_le F)
  apply BitVec.eq_of_toNat_eq
  have e1 : (enc F.width (n : Int)).toNat = n := by
    rw [enc, BitVec.ofInt_natCast, BitVec.toNat_ofNat, Nat.mod_eq_of_lt hn]
  rw [residueResult, patternResult, BitVec.toNat_setWidth, e1]
  exact (BitVec.toNat_ofNat n 128).symm ▸ rfl

/-- A residue below a modulus of the format, read back in that format, is the residue (R24 (a), R172). -/
theorem value_residueResult (F : IntFormat) (p : Word) {q : Int} (h0 : 0 ≤ q) (h : q < modulus F p) :
    value F (residueResult F q) = q := by
  have hm := modulus_le F p
  have hlt := modulus_lt F p
  obtain ⟨n, rfl⟩ := Int.eq_ofNat_of_zero_le h0
  have hnM : n < modulus F p := by exact_mod_cast h
  have e : pat F.width (residueResult F (n : Int)) = BitVec.ofNat F.width n := by
    apply BitVec.eq_of_toNat_eq
    rw [residueResult, patternResult, toNat_pat, BitVec.toNat_setWidth, enc, BitVec.ofInt_natCast, BitVec.toNat_ofNat,
      Nat.mod_eq_of_lt (show n < 2 ^ F.width by omega), Nat.mod_eq_of_lt (a := n) (b := 2 ^ 128)
        (lt_of_lt_of_le (show n < 2 ^ F.width by omega) (Nat.pow_le_pow_right (by omega) (IntFormat.width_le F))),
      Nat.mod_eq_of_lt (show n < 2 ^ F.width by omega)]
  have hn : (BitVec.ofNat F.width n).toNat = n := by
    rw [BitVec.toNat_ofNat, Nat.mod_eq_of_lt (by omega)]
  cases hs : F.signed with
  | false => simp only [value, hs, e, Bool.false_eq_true, if_false, hn]
  | true =>
    rw [value_signed hs, e, BitVec.toInt_eq_toNat_of_lt, hn]
    rw [hn]
    simp only [hs, if_true] at hm
    have : 2 * 2 ^ (F.width - 1) = 2 ^ F.width := by
      rw [← Nat.pow_succ', Nat.succ_eq_add_one, Nat.sub_add_cancel (IntFormat.width_pos F)]
    omega

@[simp] theorem guardModulus_zero (e : Ending) : guardModulus 0 e = .fatal := rfl

theorem guardModulus_pos {M : Nat} (h : 0 < M) (e : Ending) : guardModulus M e = e := by
  simp [guardModulus, Nat.ne_of_gt h]

theorem cmod_nonneg (x : Int) {M : Nat} (h : 0 < M) : 0 ≤ cmod x M :=
  Int.emod_nonneg _ (by omega)

theorem cmod_lt (x : Int) {M : Nat} (h : 0 < M) : cmod x M < M :=
  Int.emod_lt_of_pos _ (by omega)

end Sys2Proof.Machine
end

