-- ==== Sys2Proof/Laws/Euclid.lean ====
section
/-! SUPPORT. What the extended-Euclidean unit computes (R191): the loop ends within its bound, on the gcd and a
coefficient of it, and `inverse` is the inverse. -/

namespace Sys2Proof.Machine

/-- What every pass of the loop keeps, for a modulus `M` and a number `n` (R191, R193): the gcd, the two congruences,
the alternating signs, and the sizes of the coefficients. -/
structure EuclidInv (M : Nat) (n : Int) (r0 r1 : Nat) (t0 t1 : Int) : Prop where
  gcd : Nat.gcd r0 r1 = Int.gcd n M
  cong0 : (M : Int) ∣ t0 * n - r0
  cong1 : (M : Int) ∣ t1 * n - r1
  sign : t0 * t1 ≤ 0
  size : r0 * t1.natAbs + r1 * t0.natAbs = M
  le : t0.natAbs ≤ t1.natAbs
  lt : r1 < r0

theorem natAbs_sub_mul {t0 t1 : Int} (q : Nat) (h : t0 * t1 ≤ 0) :
    (t0 - (q : Int) * t1).natAbs = t0.natAbs + q * t1.natAbs := by
  rcases lt_trichotomy t1 0 with h1 | h1 | h1
  · have h0 : 0 ≤ t0 := by nlinarith
    have : 0 ≤ (q : Int) * -t1 := mul_nonneg (by omega) (by omega)
    zify
    rw [abs_of_nonneg h0, abs_of_neg h1, abs_of_nonneg (by nlinarith)]
    ring
  · simp [h1]
  · have h0 : t0 ≤ 0 := by nlinarith
    have : 0 ≤ (q : Int) * t1 := mul_nonneg (by omega) (by omega)
    zify
    rw [abs_of_nonpos h0, abs_of_pos h1, abs_of_nonpos (by nlinarith)]
    ring

/-- One pass of R191 keeps the invariant. -/
theorem EuclidInv.pass {M : Nat} {n : Int} {r0 r1 : Nat} {t0 t1 : Int} (h : EuclidInv M n r0 r1 t0 t1) (h1 : r1 ≠ 0) :
    EuclidInv M n r1 (r0 - r0 / r1 * r1) t1 (t0 - ((r0 / r1 : Nat) : Int) * t1) := by
  have hd := Nat.div_add_mod r0 r1
  have hm := Nat.mod_lt r0 (Nat.pos_of_ne_zero h1)
  have hr : r0 - r0 / r1 * r1 = r0 % r1 := by rw [Nat.mul_comm]; omega
  have hq : 1 ≤ r0 / r1 := (Nat.one_le_div_iff (Nat.pos_of_ne_zero h1)).2 h.lt.le
  have ha := natAbs_sub_mul (r0 / r1) h.sign
  rw [hr]
  generalize r0 / r1 = q at *
  generalize r0 % r1 = r2 at *
  subst hd
  refine ⟨?_, h.cong1, ?_, ?_, ?_, ?_, hm⟩
  · rw [← h.gcd, Nat.gcd_comm (r1 * q + r2)]
    simp
  · have := Int.dvd_sub h.cong0 (Dvd.dvd.mul_left h.cong1 (q : Int))
    convert this using 1
    push_cast; ring
  · have : 0 ≤ (q : Int) * (t1 * t1) := mul_nonneg (by omega) (mul_self_nonneg t1)
    have := h.sign
    nlinarith
  · rw [ha]
    have := h.size
    rw [← this]; ring
  · rw [ha]
    have := Nat.mul_le_mul_right t1.natAbs hq
    omega

/-- All the loop of R191 can answer within its bound: the gcd and a coefficient of it. -/
theorem euclid_spec (M : Nat) (n : Int) (k : Nat) : ∀ (fuel r0 r1 : Nat) (t0 t1 : Int), EuclidInv M n r0 r1 t0 t1 →
    2 * k ≤ fuel → r0 < 2 ^ k →
    (euclid fuel r0 r1 t0 t1).1 = Int.gcd n M ∧
    (M : Int) ∣ (euclid fuel r0 r1 t0 t1).2 * n - (euclid fuel r0 r1 t0 t1).1 ∧
    (euclid fuel r0 r1 t0 t1).1 * (euclid fuel r0 r1 t0 t1).2.natAbs ≤ M := by
  have done : ∀ (fuel r0 : Nat) (t0 t1 : Int), EuclidInv M n r0 0 t0 t1 →
      (euclid fuel r0 0 t0 t1).1 = Int.gcd n M ∧
      (M : Int) ∣ (euclid fuel r0 0 t0 t1).2 * n - (euclid fuel r0 0 t0 t1).1 ∧
      (euclid fuel r0 0 t0 t1).1 * (euclid fuel r0 0 t0 t1).2.natAbs ≤ M := by
    intro fuel r0 t0 t1 h
    have e : euclid fuel r0 0 t0 t1 = (r0, t0) := by cases fuel <;> simp [euclid]
    rw [e]
    refine ⟨by simpa using h.gcd, h.cong0, ?_⟩
    have := h.size
    have := Nat.mul_le_mul_left r0 h.le
    simp only at *
    omega
  induction k with
  | zero =>
    intro fuel r0 r1 t0 t1 h _ hlt
    have := h.lt
    omega
  | succ k ih =>
    intro fuel r0 r1 t0 t1 h hf hlt
    by_cases h1 : r1 = 0
    · subst h1; exact done fuel r0 t0 t1 h
    obtain ⟨f, rfl⟩ : ∃ f, fuel = f + 2 := ⟨fuel - 2, by omega⟩
    have p := h.pass h1
    have hstep : euclid (f + 2) r0 r1 t0 t1 =
        euclid (f + 1) r1 (r0 - r0 / r1 * r1) t1 (t0 - ((r0 / r1 : Nat) : Int) * t1) := by
      conv_lhs => unfold euclid
      rw [if_neg h1]
    rw [hstep]
    have hr : r0 - r0 / r1 * r1 = r0 % r1 := by have := Nat.div_add_mod r0 r1; rw [Nat.mul_comm]; omega
    by_cases h2 : r0 - r0 / r1 * r1 = 0
    · rw [h2] at p ⊢; exact done _ _ _ _ p
    have p2 := p.pass h2
    have hstep2 : ∀ a b c d, b ≠ 0 →
        euclid (f + 1) a b c d = euclid f b (a - a / b * b) d (c - ((a / b : Nat) : Int) * d) := by
      intro a b c d hb
      conv_lhs => unfold euclid
      rw [if_neg hb]
    rw [hstep2 _ _ _ _ h2]
    refine ih f _ _ _ _ p2 (by omega) ?_
    rw [hr]
    have := Nat.mod_lt r0 (Nat.pos_of_ne_zero h1)
    have hd := Nat.div_add_mod r0 r1
    have hq : 1 ≤ r0 / r1 := (Nat.one_le_div_iff (Nat.pos_of_ne_zero h1)).2 h.lt.le
    have : r1 ≤ r1 * (r0 / r1) := Nat.le_mul_of_pos_right r1 hq
    rw [Nat.pow_succ] at hlt
    omega

/-- The first state of the loop (R191). -/
theorem EuclidInv.start {M : Nat} (n : Int) (hM : 0 < M) : EuclidInv M n M (cmod n M).toNat 0 1 := by
  have h0 := cmod_nonneg n hM
  have hlt := cmod_lt n hM
  have hc : ((cmod n M).toNat : Int) = n % M := Int.toNat_of_nonneg h0
  refine ⟨?_, by simp, ?_, by simp, by simp, by simp, by omega⟩
  · rw [Nat.gcd_comm, ← Int.gcd_natCast_natCast, hc]
    simp [Int.gcd_emod]
  · rw [hc, one_mul]
    exact Int.dvd_self_sub_emod

/-- All that `inverse` can answer (R191): the inverse in `0 .. M-1` of a number coprime with the modulus, and none for any
other number. -/
theorem inverse_spec (W M : Nat) (n : Int) (hM : 0 < M) (hW : M < 2 ^ W) :
    (Int.gcd n M = 1 → ∃ x : Int, inverse W M n = some x ∧ 0 ≤ x ∧ x < M ∧ (n * x) % M = 1 % M) ∧
    (Int.gcd n M ≠ 1 → inverse W M n = none) := by
  obtain ⟨hg, hc, hs⟩ := euclid_spec M n W (euclidFuel W) M _ 0 1 (EuclidInv.start n hM) le_rfl hW
  have hpos : 0 < Int.gcd n M := Int.gcd_pos_of_ne_zero_right _ (by omega)
  have hM1 : M = 1 → euclid (euclidFuel W) M (cmod n M).toNat 0 1 = (1, 0) := by
    rintro rfl
    have : (cmod n 1).toNat = 0 := by simp [cmod]
    rw [this]
    cases euclidFuel W <;> simp [euclid]
  unfold inverse
  generalize euclid (euclidFuel W) M (cmod n M).toNat 0 1 = out at *
  obtain ⟨r, t⟩ := out
  simp only at *
  refine ⟨fun h1 => ?_, fun h1 => ?_⟩
  · rw [hg, h1, one_mul] at hs
    rw [hg, h1] at hc
    rw [if_neg (by omega)]
    have fin : ∀ x : Int, (M : Int) ∣ x * n - 1 → (n * x) % M = 1 % M := fun x hx => by
      rw [mul_comm]
      exact ((Int.modEq_iff_dvd).2 hx).symm
    have hne : 1 < M → t.natAbs ≠ M := by
      intro h1M ht
      have hd : (M : Int) ∣ t := Int.natAbs_dvd_natAbs.1 (by simp [ht])
      have : (M : Int) ∣ 1 := by
        have := Int.dvd_sub (Dvd.dvd.mul_right hd n) hc
        simpa using this
      have := Int.le_of_dvd (by omega) this
      omega
    by_cases hm : M = 1
    · have := hM1 hm
      simp only [Prod.mk.injEq] at this
      rw [this.2] at hc ⊢
      exact ⟨0, by simp, le_rfl, by omega, fin 0 hc⟩
    · have := hne (by omega)
      by_cases ht : t < 0
      · rw [if_pos ht]
        refine ⟨t + M, rfl, by omega, by omega, fin _ ?_⟩
        have := Int.dvd_add hc (Int.dvd_mul_right (M : Int) n)
        convert this using 1
        push_cast; ring
      · rw [if_neg ht]
        exact ⟨t, rfl, by omega, by omega, fin _ hc⟩
  · rw [if_pos (by omega)]

end Sys2Proof.Machine
end

