-- ==== Sys2Proof/Laws/State.lean ====
section
/-! SUPPORT. One lemma per field of `State` and update of it, true by `rfl`, so that no proof unfolds a record update. -/

namespace Sys2Proof.Machine

variable (s : State)

@[simp] theorem State.setReg_regs (i : Reg) (v : Word) : (s.setReg i v).regs = s.regs.set i v := rfl
@[simp] theorem State.setReg_written (i : Reg) (v : Word) : (s.setReg i v).written = s.written.set i true := rfl
@[simp] theorem State.setReg_status (i : Reg) (v : Word) : (s.setReg i v).status = s.status := rfl
@[simp] theorem State.setReg_response (i : Reg) (v : Word) : (s.setReg i v).response = s.response := rfl
@[simp] theorem State.setReg_script (i : Reg) (v : Word) : (s.setReg i v).script = s.script := rfl
@[simp] theorem State.setReg_fresh (i : Reg) (v : Word) : (s.setReg i v).fresh = s.fresh := rfl

@[simp] theorem State.setCode_regs (c : Code) : (s.setCode c).regs = s.regs := rfl
@[simp] theorem State.setCode_written (c : Code) : (s.setCode c).written = s.written := rfl
@[simp] theorem State.setCode_status (c : Code) : (s.setCode c).status = setCodeField s.status c.number := rfl
@[simp] theorem State.setCode_response (c : Code) : (s.setCode c).response = s.response := rfl
@[simp] theorem State.setCode_script (c : Code) : (s.setCode c).script = s.script := rfl
@[simp] theorem State.setCode_fresh (c : Code) : (s.setCode c).fresh = s.fresh := rfl

@[simp] theorem State.latchFault_regs : s.latchFault.regs = s.regs := rfl
@[simp] theorem State.latchFault_written : s.latchFault.written = s.written := rfl
@[simp] theorem State.latchFault_status : s.latchFault.status = setFaultField s.status := rfl
@[simp] theorem State.latchFault_response : s.latchFault.response = s.response := rfl
@[simp] theorem State.latchFault_script : s.latchFault.script = s.script := rfl
@[simp] theorem State.latchFault_fresh : s.latchFault.fresh = s.fresh := rfl

@[simp] theorem State.respond_regs (r : Option Response) : (s.respond r).regs = s.regs := rfl
@[simp] theorem State.respond_written (r : Option Response) : (s.respond r).written = s.written := rfl
@[simp] theorem State.respond_status (r : Option Response) : (s.respond r).status = s.status := rfl
@[simp] theorem State.respond_response (r : Option Response) : (s.respond r).response = r := rfl
@[simp] theorem State.respond_script (r : Option Response) : (s.respond r).script = s.script := rfl
@[simp] theorem State.respond_fresh (r : Option Response) : (s.respond r).fresh = s.fresh := rfl

@[simp] theorem State.complete_regs (c : Code) : (s.complete c).regs = s.regs := rfl
@[simp] theorem State.complete_written (c : Code) : (s.complete c).written = s.written := rfl
@[simp] theorem State.complete_status (c : Code) : (s.complete c).status = setCodeField s.status c.number := rfl
@[simp] theorem State.complete_response (c : Code) : (s.complete c).response = some (.outcome c) := rfl
@[simp] theorem State.complete_script (c : Code) : (s.complete c).script = s.script := rfl
@[simp] theorem State.complete_fresh (c : Code) : (s.complete c).fresh = s.fresh := rfl

@[simp] theorem State.raiseError_regs (c : Code) : (s.raiseError c).regs = s.regs := rfl
@[simp] theorem State.raiseError_written (c : Code) : (s.raiseError c).written = s.written := rfl
@[simp] theorem State.raiseError_status (c : Code) : (s.raiseError c).status = setCodeField s.status c.number := rfl
@[simp] theorem State.raiseError_response (c : Code) : (s.raiseError c).response = some (.outcome c) := rfl
@[simp] theorem State.raiseError_script (c : Code) : (s.raiseError c).script = s.script := rfl
@[simp] theorem State.raiseError_fresh (c : Code) : (s.raiseError c).fresh = s.fresh := rfl

@[simp] theorem State.raiseFatal_regs : s.raiseFatal.regs = s.regs := rfl
@[simp] theorem State.raiseFatal_written : s.raiseFatal.written = s.written := rfl
@[simp] theorem State.raiseFatal_status : s.raiseFatal.status = setCodeField (setFaultField s.status) Code.fDivzero.number := rfl
@[simp] theorem State.raiseFatal_response : s.raiseFatal.response = some (.outcome .fDivzero) := rfl
@[simp] theorem State.raiseFatal_script : s.raiseFatal.script = s.script := rfl
@[simp] theorem State.raiseFatal_fresh : s.raiseFatal.fresh = s.fresh := rfl

@[simp] theorem State.finishOk_regs (rd : Reg) (v : Word) : (s.finishOk rd v).regs = s.regs.set rd v := rfl
@[simp] theorem State.finishOk_written (rd : Reg) (v : Word) : (s.finishOk rd v).written = s.written.set rd true := rfl
@[simp] theorem State.finishOk_status (rd : Reg) (v : Word) : (s.finishOk rd v).status = setCodeField s.status Code.ok.number := rfl
@[simp] theorem State.finishOk_response (rd : Reg) (v : Word) : (s.finishOk rd v).response = some (.outcome .ok) := rfl
@[simp] theorem State.finishOk_script (rd : Reg) (v : Word) : (s.finishOk rd v).script = s.script := rfl
@[simp] theorem State.finishOk_fresh (rd : Reg) (v : Word) : (s.finishOk rd v).fresh = s.fresh := rfl

@[simp] theorem State.resetTxn_regs : s.resetTxn.regs = State.reset.regs := rfl
@[simp] theorem State.resetTxn_written : s.resetTxn.written = State.reset.written := rfl
@[simp] theorem State.resetTxn_status : s.resetTxn.status = 0 := rfl
@[simp] theorem State.resetTxn_response : s.resetTxn.response = none := rfl
@[simp] theorem State.resetTxn_script : s.resetTxn.script = s.script := rfl
@[simp] theorem State.resetTxn_fresh : s.resetTxn.fresh = s.fresh := rfl

@[simp] theorem State.writeRegTxn_regs (i : Reg) (v : Word) : (s.writeRegTxn i v).regs = s.regs.set i v := rfl
@[simp] theorem State.writeRegTxn_written (i : Reg) (v : Word) : (s.writeRegTxn i v).written = s.written.set i true := rfl
@[simp] theorem State.writeRegTxn_status (i : Reg) (v : Word) : (s.writeRegTxn i v).status = s.status := rfl
@[simp] theorem State.writeRegTxn_response (i : Reg) (v : Word) : (s.writeRegTxn i v).response = none := rfl
@[simp] theorem State.writeRegTxn_script (i : Reg) (v : Word) : (s.writeRegTxn i v).script = s.script := rfl
@[simp] theorem State.writeRegTxn_fresh (i : Reg) (v : Word) : (s.writeRegTxn i v).fresh = s.fresh := rfl

@[simp] theorem State.readRegTxn_regs (i : Reg) : (s.readRegTxn i).regs = s.regs := rfl
@[simp] theorem State.readRegTxn_written (i : Reg) : (s.readRegTxn i).written = s.written := rfl
@[simp] theorem State.readRegTxn_status (i : Reg) : (s.readRegTxn i).status = s.status := rfl
@[simp] theorem State.readRegTxn_response (i : Reg) : (s.readRegTxn i).response = some (.register (s.operand i)) := rfl
@[simp] theorem State.readRegTxn_script (i : Reg) : (s.readRegTxn i).script = s.script := rfl
@[simp] theorem State.readRegTxn_fresh (i : Reg) : (s.readRegTxn i).fresh = s.fresh := rfl

@[simp] theorem State.readCsrTxn_regs (n : Nat) : (s.readCsrTxn n).regs = s.regs := rfl
@[simp] theorem State.readCsrTxn_written (n : Nat) : (s.readCsrTxn n).written = s.written := rfl
@[simp] theorem State.readCsrTxn_status (n : Nat) : (s.readCsrTxn n).status = s.status := rfl
@[simp] theorem State.readCsrTxn_response (n : Nat) : (s.readCsrTxn n).response = some (.csr (s.csr n)) := rfl
@[simp] theorem State.readCsrTxn_script (n : Nat) : (s.readCsrTxn n).script = s.script := rfl
@[simp] theorem State.readCsrTxn_fresh (n : Nat) : (s.readCsrTxn n).fresh = s.fresh := rfl

@[simp] theorem State.refuseHalted_regs : s.refuseHalted.regs = s.regs := rfl
@[simp] theorem State.refuseHalted_written : s.refuseHalted.written = s.written := rfl
@[simp] theorem State.refuseHalted_status : s.refuseHalted.status = s.status := rfl
@[simp] theorem State.refuseHalted_response : s.refuseHalted.response = some (.outcome .eHalted) := rfl
@[simp] theorem State.refuseHalted_script : s.refuseHalted.script = s.script := rfl
@[simp] theorem State.refuseHalted_fresh : s.refuseHalted.fresh = s.fresh := rfl

@[simp] theorem State.take_regs (rest : List Txn) : (s.take rest).regs = s.regs := rfl
@[simp] theorem State.take_written (rest : List Txn) : (s.take rest).written = s.written := rfl
@[simp] theorem State.take_status (rest : List Txn) : (s.take rest).status = s.status := rfl
@[simp] theorem State.take_response (rest : List Txn) : (s.take rest).response = s.response := rfl
@[simp] theorem State.take_script (rest : List Txn) : (s.take rest).script = rest := rfl
@[simp] theorem State.take_fresh (rest : List Txn) : (s.take rest).fresh = s.fresh + 1 := rfl

@[simp] theorem State.withFetchWord_regs (nbits w : Nat) : (s.withFetchWord nbits w).regs = s.regs := rfl
@[simp] theorem State.withFetchWord_written (nbits w : Nat) : (s.withFetchWord nbits w).written = s.written := rfl
@[simp] theorem State.withFetchWord_status (nbits w : Nat) : (s.withFetchWord nbits w).status = s.status := rfl
@[simp] theorem State.withFetchWord_response (nbits w : Nat) : (s.withFetchWord nbits w).response = s.response := rfl
@[simp] theorem State.withFetchWord_script (nbits w : Nat) : (s.withFetchWord nbits w).script = .issue (BitVec.ofNat 32 (w % 2 ^ nbits)) :: s.script := rfl
@[simp] theorem State.withFetchWord_fresh (nbits w : Nat) : (s.withFetchWord nbits w).fresh = s.fresh := rfl

end Sys2Proof.Machine
end

