-- ==== Sys2Proof/Laws/Status.lean ====
section
/-! SUPPORT. The two fields of STATUS: each reads back what was written to it, and a write to one leaves the other and the
rest of the register alone (R25). -/

namespace Sys2Proof.Machine

variable (st : StatusWord) (c : BitVec 4)

theorem getLsbD_setCodeField (k : Nat) :
    (setCodeField st c).getLsbD k = if k < 4 then c.getLsbD k else st.getLsbD k := by
  simp only [setCodeField, BitVec.getLsbD_append, BitVec.getLsbD_extractLsb']
  by_cases h4 : k < 4
  · simp [h4]
  · have h : 4 + (k - 4) = k := by omega
    by_cases h32 : k < 32
    · simp [h4, h, show k - 4 < 28 by omega]
    · simp [h4, show ¬k - 4 < 28 by omega, BitVec.getLsbD_of_ge st k (by omega)]

theorem getLsbD_setFaultField (k : Nat) :
    (setFaultField st).getLsbD k = if k = 8 then true else st.getLsbD k := by
  simp only [setFaultField, BitVec.getLsbD_append, BitVec.getLsbD_extractLsb']
  by_cases h8 : k < 8
  · simp [h8, show k ≠ 8 by omega]
  · by_cases h : k = 8
    · simp [h]
    · have e : 9 + (k - 9) = k := by omega
      by_cases h32 : k < 32
      · simp [h8, h, show ¬(k - 8 < 1) by omega, show k - 8 - 1 = k - 9 by omega, show k - 9 < 23 by omega, e]
      · simp [h8, h, show ¬(k - 8 < 1) by omega, show k - 8 - 1 = k - 9 by omega, show ¬(k - 9 < 23) by omega,
          BitVec.getLsbD_of_ge st k (by omega)]

@[simp] theorem codeField_setCodeField : codeField (setCodeField st c) = c := by
  apply BitVec.eq_of_getLsbD_eq
  intro i hi
  simp [codeField, getLsbD_setCodeField, hi]

@[simp] theorem faultField_setCodeField : faultField (setCodeField st c) = faultField st := by
  rw [faultField, getLsbD_setCodeField, faultField, if_neg (by omega)]

@[simp] theorem faultField_setFaultField : faultField (setFaultField st) = true := by
  rw [faultField, getLsbD_setFaultField, if_pos rfl]

@[simp] theorem codeField_setFaultField : codeField (setFaultField st) = codeField st := by
  apply BitVec.eq_of_getLsbD_eq
  intro i hi
  simp [codeField, getLsbD_setFaultField, hi, show i ≠ 8 by omega]

@[simp] theorem Code.number_inj (c d : Code) : c.number = d.number ↔ c = d := by
  cases c <;> cases d <;> decide

@[simp] theorem DomainError.code_ne_ok (e : DomainError) : e.code ≠ .ok := by
  cases e <;> decide

@[simp] theorem DomainError.code_ne_fDivzero (e : DomainError) : e.code ≠ .fDivzero := by
  cases e <;> decide

end Sys2Proof.Machine
end

