-- ==== Sys2Proof/Laws/Ops.lean ====
section
/-! SUPPORT. One lemma per shared operation: what a register reads after a write, and all that the end of a command can
do. -/

namespace Sys2Proof.Machine

variable (s : State)

/-- A register just written reads as what was written; every other one reads as before (R12, R22). -/
@[simp] theorem operand_setReg (i j : Reg) (v : Word) :
    (s.setReg i v).operand j = if j = i then v else s.operand j := by
  by_cases h : j = i
  · subst h
    simp [State.operand, State.setReg]
  · have h' : ¬i.val = j.val := fun e => h (Fin.ext e.symm)
    simp [State.operand, State.setReg, h, h']

/-- What a register reads depends on its content, its written bit and the counter only. -/
theorem operand_congr {s t : State} (i : Reg) (hr : t.regs[i] = s.regs[i]) (hw : t.written[i] = s.written[i])
    (hf : t.fresh = s.fresh) : t.operand i = s.operand i := by
  simp only [State.operand, hr, hw, hf]

@[simp] theorem operand_respond (r : Option Response) (i : Reg) : (s.respond r).operand i = s.operand i := rfl

@[simp] theorem operand_complete (c : Code) (i : Reg) : (s.complete c).operand i = s.operand i := rfl

@[simp] theorem operand_raiseError (c : Code) (i : Reg) : (s.raiseError c).operand i = s.operand i := rfl

@[simp] theorem operand_raiseFatal (i : Reg) : s.raiseFatal.operand i = s.operand i := rfl

@[simp] theorem operand_finishOk (rd i : Reg) (v : Word) :
    (s.finishOk rd v).operand i = if i = rd then v else s.operand i :=
  operand_setReg s rd i v

@[simp] theorem code_complete (c : Code) : (s.complete c).code = c.number := by simp [State.code]

@[simp] theorem halted_complete (c : Code) : (s.complete c).halted = s.halted := by simp [State.halted]

@[simp] theorem code_finish (rd : Reg) (e : Ending) : (s.finish rd e).code = e.code.number := by
  cases e <;> simp [State.finish, State.code, Ending.code]

/-- A command halts the block exactly when it ends with the fatal fault (R26, R206). -/
@[simp] theorem halted_finish (rd : Reg) (e : Ending) :
    (s.finish rd e).halted = (s.halted || decide (e = .fatal)) := by
  cases e <;> simp [State.finish, State.halted]

@[simp] theorem response_finish (rd : Reg) (e : Ending) : (s.finish rd e).response = some (.outcome e.code) := by
  cases e <;> rfl

@[simp] theorem script_finish (rd : Reg) (e : Ending) : (s.finish rd e).script = s.script := by cases e <;> rfl

@[simp] theorem fresh_finish (rd : Reg) (e : Ending) : (s.finish rd e).fresh = s.fresh := by cases e <;> rfl

/-- The end of a command writes no register but RD (R24). -/
theorem finish_regs_of_ne {rd r : Reg} (h : r ≠ rd) (e : Ending) :
    (s.finish rd e).regs[r] = s.regs[r] ∧ (s.finish rd e).written[r] = s.written[r] := by
  have h' : ¬rd.val = r.val := fun x => h (Fin.ext x.symm)
  cases e <;> simp [State.finish, h']

/-- A command that does not end OK writes no register at all (R24, R203, R206). -/
theorem finish_regs_of_not_ok {rd : Reg} {e : Ending} (h : e.code ≠ .ok) :
    (s.finish rd e).regs = s.regs ∧ (s.finish rd e).written = s.written := by
  cases e with
  | ok v => exact absurd rfl h
  | domain d => exact ⟨rfl, rfl⟩
  | fatal => exact ⟨rfl, rfl⟩

/-- The end of a command changes no bit of STATUS but those of CODE and FAULT (R25). -/
theorem finish_status_elsewhere (rd : Reg) (e : Ending) {k : Nat} (h4 : 4 ≤ k) (h8 : k ≠ 8) :
    (s.finish rd e).status.getLsbD k = s.status.getLsbD k := by
  cases e <;> simp [State.finish, getLsbD_setCodeField, getLsbD_setFaultField, h8, show ¬k < 4 by omega]

end Sys2Proof.Machine
end

