-- ==== Sys2Proof/Laws/Exec.lean ====
section
/-! SUPPORT. All that a command can do, said once: it ends in one of the three ways of R45, and how it ends depends on
its source registers alone (R5, R22). -/

namespace Sys2Proof.Machine

/-- The ending a function of one operand gives on a list of operands. -/
def Ending.of1 (f : Word → Ending) : List Word → Ending
  | [a] => f a
  | _ => .fatal

/-- The ending a function of two operands gives on a list of operands. -/
def Ending.of2 (f : Word → Word → Ending) : List Word → Ending
  | [a, b] => f a b
  | _ => .fatal

/-- The ending a function of three operands gives on a list of operands. -/
def Ending.of3 (f : Word → Word → Word → Ending) : List Word → Ending
  | [a, b, c] => f a b c
  | _ => .fatal

/-- The ending a function of four operands gives on a list of operands. -/
def Ending.of4 (f : Word → Word → Word → Word → Ending) : List Word → Ending
  | [a, b, c, d] => f a b c d
  | _ => .fatal

/-- How a command ends, as a function of the values of its sources (R5). -/
def Instr.endingOf (i : Instr) : List Word → Ending :=
  match i.stem, i.format with
  | .bitcount, .int F => .of1 (bitcount F)
  | .revbits, .int F => .of1 (revbits F)
  | .ispow2, .int F => .of1 (ispow2Int F)
  | .ispow2, .float F => .of1 (ispow2Float F)
  | .log2floor, .int F => .of1 (if F.width = 128 then log2floorInt128 F else log2floorInt F)
  | .log2floor, .float F => .of1 (log2floorFloat F)
  | .log2ceil, .int F => .of1 (if F.width = 128 then log2ceilInt128 F else log2ceilInt F)
  | .log2ceil, .float F => .of1 (log2ceilFloat F)
  | .modmul, .int F => .of3 (modmul F)
  | .modpow, .int F => .of3 (modpow F)
  | .modpowm, .int F => .of4 (modpowm F)
  | .modinv, .int F => .of2 (modinv F)
  | _, _ => fun _ => .fatal

/-- Every command answers a next state: its ending, taken on the state it ran in (R45, R235). -/
theorem exec_eq_finish (i : Instr) (s : State) :
    exec i s = .next (s.finish i.rd (Instr.endingOf i (i.sources.map s.operand))) := by
  cases i <;> rfl

end Sys2Proof.Machine
end

