-- ==== Sys2Proof/Laws/Masks.lean ====
section
/-! SUPPORT. The masks of the cascade (R100): which bits of a mask are 1, and what one stage of the swap network does to a
bit. -/

namespace Sys2Proof.Machine

theorem maskBits_lt (N k : Nat) : maskBits N k < 2 ^ k := by
  induction k with
  | zero => simp [maskBits]
  | succ k ih =>
    unfold maskBits
    split <;> rw [Nat.pow_succ] <;> omega

theorem testBit_maskBits (N k i : Nat) : (maskBits N k).testBit i = (decide (i < k) && decide (i % (2 * N) < N)) := by
  induction k with
  | zero => simp [maskBits]
  | succ k ih =>
    have hlt := maskBits_lt N k
    unfold maskBits
    by_cases hc : k % (2 * N) < N
    · rw [if_pos hc, Nat.add_comm]
      rcases Nat.lt_trichotomy i k with h | h | h
      · rw [Nat.testBit_two_pow_add_gt h, ih]
        simp [h, Nat.lt_succ_of_lt h]
      · subst h
        rw [Nat.testBit_two_pow_add_eq, Nat.testBit_lt_two_pow hlt]
        simp [hc]
      · have : 2 ^ k + maskBits N k < 2 ^ i :=
          lt_of_lt_of_le (by rw [Nat.pow_succ]; omega) (Nat.pow_le_pow_right (by omega) (show k + 1 ≤ i by omega))
        rw [Nat.testBit_lt_two_pow this]
        simp [show ¬i < k + 1 by omega]
    · rw [if_neg hc, Nat.add_zero, ih]
      by_cases h : i = k
      · subst h; simp [hc]
      · simp [show i < k + 1 ↔ i < k by omega]

/-- Bit `i` of `mask(W, N)` is 1 exactly when `(i mod 2N) < N` (R100). -/
theorem getLsbD_mask (W N i : Nat) : (mask W N).getLsbD i = (decide (i < W) && decide (i % (2 * N) < N)) := by
  rw [mask, BitVec.getLsbD_ofNat, testBit_maskBits]
  by_cases h : i < W <;> simp [h]

/-- A stage of the swap network moves each bit to the other half of its `2N`-bit group (R104). -/
theorem getLsbD_revStage {W : Nat} (x : BitVec W) (N i : Nat) (hN : 0 < N) (hi : i < W) :
    (revStage x N).getLsbD i = x.getLsbD (if i % (2 * N) < N then i + N else i - N) := by
  have hd := Nat.div_add_mod i (2 * N)
  have hm := Nat.mod_lt i (show 0 < 2 * N by omega)
  simp only [revStage, BitVec.getLsbD_or, BitVec.getLsbD_and, BitVec.getLsbD_shiftLeft, BitVec.getLsbD_ushiftRight,
    getLsbD_mask, hi, decide_true, Bool.true_and]
  by_cases hc : i % (2 * N) < N
  · rw [if_pos hc]
    by_cases h : i < N
    · simp [hc, h, Nat.add_comm]
    · have hge : ¬(i - N) % (2 * N) < N := by
        have hq : 0 < i / (2 * N) := by
          rcases Nat.eq_zero_or_pos (i / (2 * N)) with h0 | h0
          · rw [h0] at hd; omega
          · exact h0
        have e : i - N = (i % (2 * N) + N) + 2 * N * (i / (2 * N) - 1) := by
          have : 2 * N * (i / (2 * N)) = 2 * N * (i / (2 * N) - 1) + 2 * N := by
            conv_lhs => rw [← Nat.sub_add_cancel hq]
            ring
          omega
        rw [e, Nat.add_mul_mod_self_left, Nat.mod_eq_of_lt (by omega)]
        omega
      simp [hc, hge, Nat.add_comm]
  · rw [if_neg hc]
    have h : ¬i < N := fun h => hc (by rw [Nat.mod_eq_of_lt (by omega)]; exact h)
    have hlt : (i - N) % (2 * N) < N := by
      have e : i - N = (i % (2 * N) - N) + 2 * N * (i / (2 * N)) := by omega
      rw [e, Nat.add_mul_mod_self_left, Nat.mod_eq_of_lt (by omega)]
      omega
    simp [hc, h, hlt, show i - N < W by omega]

end Sys2Proof.Machine
end

