-- ==== Sys2Proof/Laws/Modpow.lean ====
section
/-! SUPPORT. What the square-and-multiply engine computes (R180, R184). -/

namespace Sys2Proof.Machine

theorem cmod_modEq (x : Int) (M : Nat) : cmod x M ≡ x [ZMOD M] :=
  Int.mod_modEq x M

/-- The loop of R180, with as many passes as the exponent has bits, is `acc * b^e` up to a multiple of the modulus. -/
theorem powLoop_modEq (M : Nat) (fuel : Nat) : ∀ (acc b : Int) (e : Nat), e < 2 ^ fuel →
    powLoop M fuel acc b e ≡ acc * b ^ e [ZMOD M] := by
  induction fuel with
  | zero =>
    intro acc b e he
    have : e = 0 := by omega
    subst this
    simp [powLoop]
  | succ fuel ih =>
    intro acc b e he
    unfold powLoop
    by_cases h0 : e = 0
    · subst h0; simp
    rw [if_neg h0]
    have hlt : e >>> 1 < 2 ^ fuel := by rw [Nat.shiftRight_eq_div_pow]; rw [Nat.pow_succ] at he; omega
    refine (ih _ _ _ hlt).trans ?_
    have hb := (cmod_modEq (b * b) M).pow (e >>> 1)
    have e2 : (b * b) ^ (e >>> 1) = b ^ (2 * (e >>> 1)) := by rw [← pow_two, ← pow_mul]
    rw [e2] at hb
    have hs : e >>> 1 = e / 2 := by simp [Nat.shiftRight_eq_div_pow]
    cases ht : e.testBit 0 with
    | true =>
      have hodd : e = 2 * (e >>> 1) + 1 := by
        rw [Nat.testBit_zero] at ht; simp at ht; omega
      refine ((cmod_modEq (acc * b) M).mul hb).trans ?_
      conv_rhs => rw [hodd]
      rw [pow_succ]
      exact (show acc * b * b ^ (2 * (e >>> 1)) = acc * (b ^ (2 * (e >>> 1)) * b) by ring) ▸ Int.ModEq.refl _
    | false =>
      have heven : e = 2 * (e >>> 1) := by
        rw [Nat.testBit_zero] at ht; simp at ht; omega
      conv_rhs => rw [heven]
      exact (Int.ModEq.refl acc).mul hb

/-- The engine on an exponent that is not negative: the residue of the exact power times the multiplier (R184). -/
theorem powReduce_eq (W M : Nat) (b : Int) (e : Nat) (k : Int) (h : e < 2 ^ W) :
    powReduce W M b e k = (k * b ^ e) % M :=
  powLoop_modEq M W k b e h

end Sys2Proof.Machine
end

