-- ==== Sys2Proof/Laws/PerInstr.lean ====
section
/-! SUPPORT. The per-instruction families of LAWS.json: one lemma per constructor of `Instr`. -/

namespace Sys2Proof.Laws

/-- The decoder reads back the fields the encoder writes, for one instruction. -/
def EncodeDecode.Statement (i : Instr) : Prop :=
  decodeFields i.parts.fields = .ok i

theorem EncodeDecode.bitcountU8 (rd rs1 : Reg) : EncodeDecode.Statement (.bitcountU8 rd rs1) := rfl

theorem EncodeDecode.bitcountU16 (rd rs1 : Reg) : EncodeDecode.Statement (.bitcountU16 rd rs1) := rfl

theorem EncodeDecode.bitcountU32 (rd rs1 : Reg) : EncodeDecode.Statement (.bitcountU32 rd rs1) := rfl

theorem EncodeDecode.bitcountU64 (rd rs1 : Reg) : EncodeDecode.Statement (.bitcountU64 rd rs1) := rfl

theorem EncodeDecode.bitcountU128 (rd rs1 : Reg) : EncodeDecode.Statement (.bitcountU128 rd rs1) := rfl

theorem EncodeDecode.bitcountS8 (rd rs1 : Reg) : EncodeDecode.Statement (.bitcountS8 rd rs1) := rfl

theorem EncodeDecode.bitcountS16 (rd rs1 : Reg) : EncodeDecode.Statement (.bitcountS16 rd rs1) := rfl

theorem EncodeDecode.bitcountS32 (rd rs1 : Reg) : EncodeDecode.Statement (.bitcountS32 rd rs1) := rfl

theorem EncodeDecode.bitcountS64 (rd rs1 : Reg) : EncodeDecode.Statement (.bitcountS64 rd rs1) := rfl

theorem EncodeDecode.bitcountS128 (rd rs1 : Reg) : EncodeDecode.Statement (.bitcountS128 rd rs1) := rfl

theorem EncodeDecode.revbitsU8 (rd rs1 : Reg) : EncodeDecode.Statement (.revbitsU8 rd rs1) := rfl

theorem EncodeDecode.revbitsU16 (rd rs1 : Reg) : EncodeDecode.Statement (.revbitsU16 rd rs1) := rfl

theorem EncodeDecode.revbitsU32 (rd rs1 : Reg) : EncodeDecode.Statement (.revbitsU32 rd rs1) := rfl

theorem EncodeDecode.revbitsU64 (rd rs1 : Reg) : EncodeDecode.Statement (.revbitsU64 rd rs1) := rfl

theorem EncodeDecode.revbitsU128 (rd rs1 : Reg) : EncodeDecode.Statement (.revbitsU128 rd rs1) := rfl

theorem EncodeDecode.revbitsS8 (rd rs1 : Reg) : EncodeDecode.Statement (.revbitsS8 rd rs1) := rfl

theorem EncodeDecode.revbitsS16 (rd rs1 : Reg) : EncodeDecode.Statement (.revbitsS16 rd rs1) := rfl

theorem EncodeDecode.revbitsS32 (rd rs1 : Reg) : EncodeDecode.Statement (.revbitsS32 rd rs1) := rfl

theorem EncodeDecode.revbitsS64 (rd rs1 : Reg) : EncodeDecode.Statement (.revbitsS64 rd rs1) := rfl

theorem EncodeDecode.revbitsS128 (rd rs1 : Reg) : EncodeDecode.Statement (.revbitsS128 rd rs1) := rfl

theorem EncodeDecode.ispow2U8 (rd rs1 : Reg) : EncodeDecode.Statement (.ispow2U8 rd rs1) := rfl

theorem EncodeDecode.ispow2U16 (rd rs1 : Reg) : EncodeDecode.Statement (.ispow2U16 rd rs1) := rfl

theorem EncodeDecode.ispow2U32 (rd rs1 : Reg) : EncodeDecode.Statement (.ispow2U32 rd rs1) := rfl

theorem EncodeDecode.ispow2U64 (rd rs1 : Reg) : EncodeDecode.Statement (.ispow2U64 rd rs1) := rfl

theorem EncodeDecode.ispow2U128 (rd rs1 : Reg) : EncodeDecode.Statement (.ispow2U128 rd rs1) := rfl

theorem EncodeDecode.ispow2F16 (rd rs1 : Reg) : EncodeDecode.Statement (.ispow2F16 rd rs1) := rfl

theorem EncodeDecode.ispow2F32 (rd rs1 : Reg) : EncodeDecode.Statement (.ispow2F32 rd rs1) := rfl

theorem EncodeDecode.ispow2F64 (rd rs1 : Reg) : EncodeDecode.Statement (.ispow2F64 rd rs1) := rfl

theorem EncodeDecode.ispow2S8 (rd rs1 : Reg) : EncodeDecode.Statement (.ispow2S8 rd rs1) := rfl

theorem EncodeDecode.ispow2S16 (rd rs1 : Reg) : EncodeDecode.Statement (.ispow2S16 rd rs1) := rfl

theorem EncodeDecode.ispow2S32 (rd rs1 : Reg) : EncodeDecode.Statement (.ispow2S32 rd rs1) := rfl

theorem EncodeDecode.ispow2S64 (rd rs1 : Reg) : EncodeDecode.Statement (.ispow2S64 rd rs1) := rfl

theorem EncodeDecode.ispow2S128 (rd rs1 : Reg) : EncodeDecode.Statement (.ispow2S128 rd rs1) := rfl

theorem EncodeDecode.log2floorU8 (rd rs1 : Reg) : EncodeDecode.Statement (.log2floorU8 rd rs1) := rfl

theorem EncodeDecode.log2floorU16 (rd rs1 : Reg) : EncodeDecode.Statement (.log2floorU16 rd rs1) := rfl

theorem EncodeDecode.log2floorU32 (rd rs1 : Reg) : EncodeDecode.Statement (.log2floorU32 rd rs1) := rfl

theorem EncodeDecode.log2floorU64 (rd rs1 : Reg) : EncodeDecode.Statement (.log2floorU64 rd rs1) := rfl

theorem EncodeDecode.log2floorU128 (rd rs1 : Reg) : EncodeDecode.Statement (.log2floorU128 rd rs1) := rfl

theorem EncodeDecode.log2floorF16 (rd rs1 : Reg) : EncodeDecode.Statement (.log2floorF16 rd rs1) := rfl

theorem EncodeDecode.log2floorF32 (rd rs1 : Reg) : EncodeDecode.Statement (.log2floorF32 rd rs1) := rfl

theorem EncodeDecode.log2floorF64 (rd rs1 : Reg) : EncodeDecode.Statement (.log2floorF64 rd rs1) := rfl

theorem EncodeDecode.log2floorS8 (rd rs1 : Reg) : EncodeDecode.Statement (.log2floorS8 rd rs1) := rfl

theorem EncodeDecode.log2floorS16 (rd rs1 : Reg) : EncodeDecode.Statement (.log2floorS16 rd rs1) := rfl

theorem EncodeDecode.log2floorS32 (rd rs1 : Reg) : EncodeDecode.Statement (.log2floorS32 rd rs1) := rfl

theorem EncodeDecode.log2floorS64 (rd rs1 : Reg) : EncodeDecode.Statement (.log2floorS64 rd rs1) := rfl

theorem EncodeDecode.log2floorS128 (rd rs1 : Reg) : EncodeDecode.Statement (.log2floorS128 rd rs1) := rfl

theorem EncodeDecode.log2ceilU8 (rd rs1 : Reg) : EncodeDecode.Statement (.log2ceilU8 rd rs1) := rfl

theorem EncodeDecode.log2ceilU16 (rd rs1 : Reg) : EncodeDecode.Statement (.log2ceilU16 rd rs1) := rfl

theorem EncodeDecode.log2ceilU32 (rd rs1 : Reg) : EncodeDecode.Statement (.log2ceilU32 rd rs1) := rfl

theorem EncodeDecode.log2ceilU64 (rd rs1 : Reg) : EncodeDecode.Statement (.log2ceilU64 rd rs1) := rfl

theorem EncodeDecode.log2ceilU128 (rd rs1 : Reg) : EncodeDecode.Statement (.log2ceilU128 rd rs1) := rfl

theorem EncodeDecode.log2ceilF16 (rd rs1 : Reg) : EncodeDecode.Statement (.log2ceilF16 rd rs1) := rfl

theorem EncodeDecode.log2ceilF32 (rd rs1 : Reg) : EncodeDecode.Statement (.log2ceilF32 rd rs1) := rfl

theorem EncodeDecode.log2ceilF64 (rd rs1 : Reg) : EncodeDecode.Statement (.log2ceilF64 rd rs1) := rfl

theorem EncodeDecode.log2ceilS8 (rd rs1 : Reg) : EncodeDecode.Statement (.log2ceilS8 rd rs1) := rfl

theorem EncodeDecode.log2ceilS16 (rd rs1 : Reg) : EncodeDecode.Statement (.log2ceilS16 rd rs1) := rfl

theorem EncodeDecode.log2ceilS32 (rd rs1 : Reg) : EncodeDecode.Statement (.log2ceilS32 rd rs1) := rfl

theorem EncodeDecode.log2ceilS64 (rd rs1 : Reg) : EncodeDecode.Statement (.log2ceilS64 rd rs1) := rfl

theorem EncodeDecode.log2ceilS128 (rd rs1 : Reg) : EncodeDecode.Statement (.log2ceilS128 rd rs1) := rfl

theorem EncodeDecode.modmulU8 (rd rs1 rs2 rs3 : Reg) : EncodeDecode.Statement (.modmulU8 rd rs1 rs2 rs3) := rfl

theorem EncodeDecode.modmulU16 (rd rs1 rs2 rs3 : Reg) : EncodeDecode.Statement (.modmulU16 rd rs1 rs2 rs3) := rfl

theorem EncodeDecode.modmulU32 (rd rs1 rs2 rs3 : Reg) : EncodeDecode.Statement (.modmulU32 rd rs1 rs2 rs3) := rfl

theorem EncodeDecode.modmulU64 (rd rs1 rs2 rs3 : Reg) : EncodeDecode.Statement (.modmulU64 rd rs1 rs2 rs3) := rfl

theorem EncodeDecode.modmulU128 (rd rs1 rs2 rs3 : Reg) : EncodeDecode.Statement (.modmulU128 rd rs1 rs2 rs3) := rfl

theorem EncodeDecode.modmulS8 (rd rs1 rs2 rs3 : Reg) : EncodeDecode.Statement (.modmulS8 rd rs1 rs2 rs3) := rfl

theorem EncodeDecode.modmulS16 (rd rs1 rs2 rs3 : Reg) : EncodeDecode.Statement (.modmulS16 rd rs1 rs2 rs3) := rfl

theorem EncodeDecode.modmulS32 (rd rs1 rs2 rs3 : Reg) : EncodeDecode.Statement (.modmulS32 rd rs1 rs2 rs3) := rfl

theorem EncodeDecode.modmulS64 (rd rs1 rs2 rs3 : Reg) : EncodeDecode.Statement (.modmulS64 rd rs1 rs2 rs3) := rfl

theorem EncodeDecode.modmulS128 (rd rs1 rs2 rs3 : Reg) : EncodeDecode.Statement (.modmulS128 rd rs1 rs2 rs3) := rfl

theorem EncodeDecode.modpowU8 (rd rs1 rs2 rs3 : Reg) : EncodeDecode.Statement (.modpowU8 rd rs1 rs2 rs3) := rfl

theorem EncodeDecode.modpowU16 (rd rs1 rs2 rs3 : Reg) : EncodeDecode.Statement (.modpowU16 rd rs1 rs2 rs3) := rfl

theorem EncodeDecode.modpowU32 (rd rs1 rs2 rs3 : Reg) : EncodeDecode.Statement (.modpowU32 rd rs1 rs2 rs3) := rfl

theorem EncodeDecode.modpowU64 (rd rs1 rs2 rs3 : Reg) : EncodeDecode.Statement (.modpowU64 rd rs1 rs2 rs3) := rfl

theorem EncodeDecode.modpowU128 (rd rs1 rs2 rs3 : Reg) : EncodeDecode.Statement (.modpowU128 rd rs1 rs2 rs3) := rfl

theorem EncodeDecode.modpowS8 (rd rs1 rs2 rs3 : Reg) : EncodeDecode.Statement (.modpowS8 rd rs1 rs2 rs3) := rfl

theorem EncodeDecode.modpowS16 (rd rs1 rs2 rs3 : Reg) : EncodeDecode.Statement (.modpowS16 rd rs1 rs2 rs3) := rfl

theorem EncodeDecode.modpowS32 (rd rs1 rs2 rs3 : Reg) : EncodeDecode.Statement (.modpowS32 rd rs1 rs2 rs3) := rfl

theorem EncodeDecode.modpowS64 (rd rs1 rs2 rs3 : Reg) : EncodeDecode.Statement (.modpowS64 rd rs1 rs2 rs3) := rfl

theorem EncodeDecode.modpowS128 (rd rs1 rs2 rs3 : Reg) : EncodeDecode.Statement (.modpowS128 rd rs1 rs2 rs3) := rfl

theorem EncodeDecode.modpowmU8 (rd rs1 rs2 rs3 rs4 : Reg) : EncodeDecode.Statement (.modpowmU8 rd rs1 rs2 rs3 rs4) := rfl

theorem EncodeDecode.modpowmU16 (rd rs1 rs2 rs3 rs4 : Reg) : EncodeDecode.Statement (.modpowmU16 rd rs1 rs2 rs3 rs4) := rfl

theorem EncodeDecode.modpowmU32 (rd rs1 rs2 rs3 rs4 : Reg) : EncodeDecode.Statement (.modpowmU32 rd rs1 rs2 rs3 rs4) := rfl

theorem EncodeDecode.modpowmU64 (rd rs1 rs2 rs3 rs4 : Reg) : EncodeDecode.Statement (.modpowmU64 rd rs1 rs2 rs3 rs4) := rfl

theorem EncodeDecode.modpowmU128 (rd rs1 rs2 rs3 rs4 : Reg) : EncodeDecode.Statement (.modpowmU128 rd rs1 rs2 rs3 rs4) := rfl

theorem EncodeDecode.modpowmS8 (rd rs1 rs2 rs3 rs4 : Reg) : EncodeDecode.Statement (.modpowmS8 rd rs1 rs2 rs3 rs4) := rfl

theorem EncodeDecode.modpowmS16 (rd rs1 rs2 rs3 rs4 : Reg) : EncodeDecode.Statement (.modpowmS16 rd rs1 rs2 rs3 rs4) := rfl

theorem EncodeDecode.modpowmS32 (rd rs1 rs2 rs3 rs4 : Reg) : EncodeDecode.Statement (.modpowmS32 rd rs1 rs2 rs3 rs4) := rfl

theorem EncodeDecode.modpowmS64 (rd rs1 rs2 rs3 rs4 : Reg) : EncodeDecode.Statement (.modpowmS64 rd rs1 rs2 rs3 rs4) := rfl

theorem EncodeDecode.modpowmS128 (rd rs1 rs2 rs3 rs4 : Reg) : EncodeDecode.Statement (.modpowmS128 rd rs1 rs2 rs3 rs4) := rfl

theorem EncodeDecode.modinvU8 (rd rs1 rs2 : Reg) : EncodeDecode.Statement (.modinvU8 rd rs1 rs2) := rfl

theorem EncodeDecode.modinvU16 (rd rs1 rs2 : Reg) : EncodeDecode.Statement (.modinvU16 rd rs1 rs2) := rfl

theorem EncodeDecode.modinvU32 (rd rs1 rs2 : Reg) : EncodeDecode.Statement (.modinvU32 rd rs1 rs2) := rfl

theorem EncodeDecode.modinvU64 (rd rs1 rs2 : Reg) : EncodeDecode.Statement (.modinvU64 rd rs1 rs2) := rfl

theorem EncodeDecode.modinvU128 (rd rs1 rs2 : Reg) : EncodeDecode.Statement (.modinvU128 rd rs1 rs2) := rfl

theorem EncodeDecode.modinvS8 (rd rs1 rs2 : Reg) : EncodeDecode.Statement (.modinvS8 rd rs1 rs2) := rfl

theorem EncodeDecode.modinvS16 (rd rs1 rs2 : Reg) : EncodeDecode.Statement (.modinvS16 rd rs1 rs2) := rfl

theorem EncodeDecode.modinvS32 (rd rs1 rs2 : Reg) : EncodeDecode.Statement (.modinvS32 rd rs1 rs2) := rfl

theorem EncodeDecode.modinvS64 (rd rs1 rs2 : Reg) : EncodeDecode.Statement (.modinvS64 rd rs1 rs2) := rfl

theorem EncodeDecode.modinvS128 (rd rs1 rs2 : Reg) : EncodeDecode.Statement (.modinvS128 rd rs1 rs2) := rfl

end Sys2Proof.Laws
end

