-- ==== Sys2Proof/Laws/Step.lean ====
section
/-! SUPPORT. All that one step can do, said once. -/

namespace Sys2Proof.Machine

variable (s : State)

/-- With no transaction presented the block does nothing (R214). -/
theorem step_idle (h : s.script = []) : step s = .next s := by
  simp only [step, h]

/-- A step performs the first transaction of the script (R42, R53). -/
theorem step_perform {t : Txn} {rest : List Txn} (h : s.script = t :: rest) : step s = perform t (s.take rest) := by
  simp only [step, h]

/-- Issue while halted (R26, R207). -/
theorem issue_halted (w : CommandWord) (h : s.halted = true) : issue w s = .next s.refuseHalted := by
  simp only [issue, h, if_true]

/-- Issue of an illegal word (R66, R205). -/
theorem issue_illegal {w : CommandWord} {r : Reject} (h : s.halted = false) (hd : decode w = .error r) :
    issue w s = .next (s.raiseError .eIllegal) := by
  simp [issue, h, hd]

/-- Issue of a legal word runs the command (R45). -/
theorem issue_legal {w : CommandWord} {i : Instr} (h : s.halted = false) (hd : decode w = .ok i) :
    issue w s = exec i s := by
  simp [issue, h, hd]

/-- The three things an Issue can do (R45). -/
theorem issue_cases (w : CommandWord) :
    (s.halted = true ∧ issue w s = .next s.refuseHalted) ∨
    (s.halted = false ∧ (∃ r, decode w = .error r) ∧ issue w s = .next (s.raiseError .eIllegal)) ∨
    (s.halted = false ∧ ∃ i, decode w = .ok i ∧
      issue w s = .next (s.finish i.rd (Instr.endingOf i (i.sources.map s.operand)))) := by
  cases h : s.halted with
  | true => exact .inl ⟨rfl, issue_halted s w h⟩
  | false =>
    cases hd : decode w with
    | error r => exact .inr (.inl ⟨rfl, ⟨r, rfl⟩, issue_illegal s h hd⟩)
    | ok i => exact .inr (.inr ⟨rfl, i, rfl, (issue_legal s h hd).trans (exec_eq_finish i s)⟩)

/-- Everything a step can do: nothing, or one of the five transactions on the state that has taken it. -/
theorem step_cases {t : State} (h : step s = .next t) :
    (s.script = [] ∧ t = s) ∨
    ∃ rest,
      (s.script = .reset :: rest ∧ t = (s.take rest).resetTxn) ∨
      (∃ i v, s.script = .writeReg i v :: rest ∧ t = (s.take rest).writeRegTxn i v) ∨
      (∃ i, s.script = .readReg i :: rest ∧ t = (s.take rest).readRegTxn i) ∨
      (∃ n, s.script = .readCsr n :: rest ∧ t = (s.take rest).readCsrTxn n) ∨
      (∃ w, s.script = .issue w :: rest ∧
        ((s.halted = true ∧ t = (s.take rest).refuseHalted) ∨
         (s.halted = false ∧ (∃ r, decode w = .error r) ∧ t = (s.take rest).raiseError .eIllegal) ∨
         (s.halted = false ∧ ∃ i, decode w = .ok i ∧
           t = (s.take rest).finish i.rd (Instr.endingOf i (i.sources.map (s.take rest).operand))))) := by
  cases hs : s.script with
  | nil => exact .inl ⟨rfl, by simpa [step_idle s hs, eq_comm] using h⟩
  | cons x rest =>
    rw [step_perform s hs] at h
    refine .inr ⟨rest, ?_⟩
    cases x with
    | reset => exact .inl ⟨rfl, by simpa [perform, eq_comm] using h⟩
    | writeReg i v => exact .inr (.inl ⟨i, v, rfl, by simpa [perform, eq_comm] using h⟩)
    | readReg i => exact .inr (.inr (.inl ⟨i, rfl, by simpa [perform, eq_comm] using h⟩))
    | readCsr n => exact .inr (.inr (.inr (.inl ⟨n, rfl, by simpa [perform, eq_comm] using h⟩)))
    | issue w =>
      refine .inr (.inr (.inr (.inr ⟨w, rfl, ?_⟩)))
      have hh : (s.take rest).halted = s.halted := rfl
      rcases issue_cases (s.take rest) w with ⟨a, e⟩ | ⟨a, b, e⟩ | ⟨a, i, b, e⟩
      · exact .inl ⟨hh ▸ a, by simpa [perform, e, eq_comm] using h⟩
      · exact .inr (.inl ⟨hh ▸ a, b, by simpa [perform, e, eq_comm] using h⟩)
      · exact .inr (.inr ⟨hh ▸ a, i, b, by simpa [perform, e, eq_comm] using h⟩)

/-- A step takes the transaction it performs off the script, and the next step performs the one after it (R53). -/
theorem script_step {t : State} {x : Txn} {rest : List Txn} (h : s.script = x :: rest) (hs : step s = .next t) :
    t.script = rest := by
  rcases step_cases s hs with ⟨e, -⟩ | ⟨r, ⟨e, rfl⟩ | ⟨i, v, e, rfl⟩ | ⟨i, e, rfl⟩ | ⟨n, e, rfl⟩ | ⟨w, e, hw⟩⟩
  · rw [e] at h; cases h
  · rw [e] at h; cases h; rfl
  · rw [e] at h; cases h; rfl
  · rw [e] at h; cases h; rfl
  · rw [e] at h; cases h; rfl
  · rw [e] at h; cases h
    rcases hw with ⟨-, rfl⟩ | ⟨-, -, rfl⟩ | ⟨-, i, -, rfl⟩
    · rfl
    · rfl
    · rw [script_finish]; rfl

end Sys2Proof.Machine
end

