-- ==== Sys2Proof/Laws/Run.lean ====
section
/-! SUPPORT. A run of the machine, one step at a time. -/

namespace Sys2Proof.Machine

theorem run_zero (s : State) : Sys2Proof.core.run 0 s = .next s := rfl

/-- A run of `k + 1` steps whose first step answers a next state is that state's run of `k` steps. -/
theorem run_succ {s u : State} {k : Nat} (h : step s = .next u) :
    Sys2Proof.core.run (k + 1) s = Sys2Proof.core.run k u := by
  have e := Host.Core.run.eq_2 Sys2Proof.core s k
  have h' : Sys2Proof.core.step s = .next u := h
  rw [h'] at e
  exact e

end Sys2Proof.Machine
end

