-- ==== Sys2Proof/Tests/Slice0.lean ====
section
/-! SUPPORT. Tests, each a named theorem: the well-formedness smoke, decoding, one-step tests from the spec's vectors,
and a witness for the hypotheses of each obligation. Expected results are the spec's. -/

namespace Sys2Proof.Tests

open Sys2Proof.Machine Sys2Proof.Safety

set_option Elab.async false

/-! ## Helpers -/

/-- A state in which `r1`, `r2`, ... hold the given values and the registers up to the last of them are written; `r0` is
not. -/
def holding (values : List Nat) : State :=
  { State.reset with
    regs := Vector.ofFn fun i => BitVec.ofNat 128 ((0 :: values).getD i.val 0)
    written := Vector.ofFn fun i => decide (0 < i.val) && decide (i.val ≤ values.length) }

/-- The words decode to the commands, the commands encode to the words, and the command a row's word stands for has the
row's mnemonic. -/
def decodesTo (rows : List (Nat × Instr × String)) : Bool :=
  rows.all fun (w, i, mnemonic) =>
    decode (BitVec.ofNat 32 w) == .ok i && encode i == BitVec.ofNat 32 w && decodeTableWord 32 w == some i &&
      i.mnemonic == mnemonic

/-- A vector: the word, the sources, the response, and `r0` afterwards (`none`: not written). -/
structure Vec where
  word : Nat
  sources : List Nat
  code : Code
  result : Option Nat

/-- One step from the sources' state, by an Issue of the word put where the step takes it, does what the vector says. -/
def stepsAsStated (vs : List Vec) : Bool :=
  vs.all fun v =>
    match step ((holding v.sources).withFetchWord 32 v.word) with
    | .next t =>
      t.response == some (.outcome v.code) && (t.written[0] == v.result.isSome) &&
        (if v.result.isSome then t.regs[0] == BitVec.ofNat 128 (v.result.getD 0) else true) &&
        t.status == (if v.code = .fDivzero then 0x104 else BitVec.ofNat 32 v.code.number.toNat)
    | _ => false

/-- The state after one step, for tests of transactions; the state itself if there is none. -/
def after (s : State) : State :=
  match step s with
  | .next t => t
  | _ => s

/-- A state whose host performs the given transactions next. -/
def scripted (txns : List Txn) (s : State) : State :=
  { s with script := txns }

/-- A halted block with a value in `r1`. -/
def halted : State :=
  { holding [7] with status := 0x104 }

/-! ## Well-formedness: one illegal word for each clause of R66, and why (vectors X1 to X21) -/

theorem test_illegal_reserved_op : (fieldsOf 0x00000006).wf = false ∧ decode 0x00000006 = .error .reservedOp := by decide
theorem test_illegal_reserved_fmt : (fieldsOf 0x000000D1).wf = false ∧ decode 0x000000D1 = .error .reservedFmt := by decide
theorem test_illegal_float_format : (fieldsOf 0x00000051).wf = false ∧ decode 0x00000051 = .error .floatFormat := by decide
theorem test_illegal_zero_field : (fieldsOf 0x01000101).wf = false ∧ decode 0x01000101 = .error .zeroField := by decide
theorem test_illegal_multiplier_bit :
    (fieldsOf 0x00800101).wf = false ∧ decode 0x00800101 = .error .multiplierBit := by decide
theorem test_illegal_unused_field : (fieldsOf 0x00004101).wf = false ∧ decode 0x00004101 = .error .unusedField := by decide
theorem test_legal_word : (fieldsOf 0x00C68FB9).wf = true := by decide
theorem test_all_zero_and_all_one_words :
    (fieldsOf 0).wf = false ∧ (fieldsOf 0xFFFFFFFF).wf = false ∧ decodeTableWord 32 0 = none := by decide

/-! ## Decoding: for every row of `opcode_table.json`, its match value with register fields 1, 2, 3, 4, 5 written in at
bits 10:8, 13:11, 16:14, 19:17, 22:20 (R61, R65), the command it stands for, and the row's mnemonic -/

theorem test_decode_bitcount : decodesTo [
  (0x00001101, .bitcountU8 1 2, "bitcount.u8"), (0x00001111, .bitcountU16 1 2, "bitcount.u16"),
  (0x00001121, .bitcountU32 1 2, "bitcount.u32"), (0x00001131, .bitcountU64 1 2, "bitcount.u64"),
  (0x00001141, .bitcountU128 1 2, "bitcount.u128"), (0x00001181, .bitcountS8 1 2, "bitcount.s8"),
  (0x00001191, .bitcountS16 1 2, "bitcount.s16"), (0x000011A1, .bitcountS32 1 2, "bitcount.s32"),
  (0x000011B1, .bitcountS64 1 2, "bitcount.s64"), (0x000011C1, .bitcountS128 1 2, "bitcount.s128")] = true := by decide +kernel

theorem test_decode_revbits : decodesTo [
  (0x00001102, .revbitsU8 1 2, "revbits.u8"), (0x00001112, .revbitsU16 1 2, "revbits.u16"),
  (0x00001122, .revbitsU32 1 2, "revbits.u32"), (0x00001132, .revbitsU64 1 2, "revbits.u64"),
  (0x00001142, .revbitsU128 1 2, "revbits.u128"), (0x00001182, .revbitsS8 1 2, "revbits.s8"),
  (0x00001192, .revbitsS16 1 2, "revbits.s16"), (0x000011A2, .revbitsS32 1 2, "revbits.s32"),
  (0x000011B2, .revbitsS64 1 2, "revbits.s64"), (0x000011C2, .revbitsS128 1 2, "revbits.s128")] = true := by decide +kernel

theorem test_decode_ispow2 : decodesTo [
  (0x00001103, .ispow2U8 1 2, "ispow2.u8"), (0x00001113, .ispow2U16 1 2, "ispow2.u16"),
  (0x00001123, .ispow2U32 1 2, "ispow2.u32"), (0x00001133, .ispow2U64 1 2, "ispow2.u64"),
  (0x00001143, .ispow2U128 1 2, "ispow2.u128"), (0x00001153, .ispow2F16 1 2, "ispow2.f16"),
  (0x00001163, .ispow2F32 1 2, "ispow2.f32"), (0x00001173, .ispow2F64 1 2, "ispow2.f64"),
  (0x00001183, .ispow2S8 1 2, "ispow2.s8"), (0x00001193, .ispow2S16 1 2, "ispow2.s16"),
  (0x000011A3, .ispow2S32 1 2, "ispow2.s32"), (0x000011B3, .ispow2S64 1 2, "ispow2.s64"),
  (0x000011C3, .ispow2S128 1 2, "ispow2.s128")] = true := by decide +kernel

theorem test_decode_log2floor : decodesTo [
  (0x00001104, .log2floorU8 1 2, "log2floor.u8"), (0x00001114, .log2floorU16 1 2, "log2floor.u16"),
  (0x00001124, .log2floorU32 1 2, "log2floor.u32"), (0x00001134, .log2floorU64 1 2, "log2floor.u64"),
  (0x00001144, .log2floorU128 1 2, "log2floor.u128"), (0x00001154, .log2floorF16 1 2, "log2floor.f16"),
  (0x00001164, .log2floorF32 1 2, "log2floor.f32"), (0x00001174, .log2floorF64 1 2, "log2floor.f64"),
  (0x00001184, .log2floorS8 1 2, "log2floor.s8"), (0x00001194, .log2floorS16 1 2, "log2floor.s16"),
  (0x000011A4, .log2floorS32 1 2, "log2floor.s32"), (0x000011B4, .log2floorS64 1 2, "log2floor.s64"),
  (0x000011C4, .log2floorS128 1 2, "log2floor.s128")] = true := by decide +kernel

theorem test_decode_log2ceil : decodesTo [
  (0x00001105, .log2ceilU8 1 2, "log2ceil.u8"), (0x00001115, .log2ceilU16 1 2, "log2ceil.u16"),
  (0x00001125, .log2ceilU32 1 2, "log2ceil.u32"), (0x00001135, .log2ceilU64 1 2, "log2ceil.u64"),
  (0x00001145, .log2ceilU128 1 2, "log2ceil.u128"), (0x00001155, .log2ceilF16 1 2, "log2ceil.f16"),
  (0x00001165, .log2ceilF32 1 2, "log2ceil.f32"), (0x00001175, .log2ceilF64 1 2, "log2ceil.f64"),
  (0x00001185, .log2ceilS8 1 2, "log2ceil.s8"), (0x00001195, .log2ceilS16 1 2, "log2ceil.s16"),
  (0x000011A5, .log2ceilS32 1 2, "log2ceil.s32"), (0x000011B5, .log2ceilS64 1 2, "log2ceil.s64"),
  (0x000011C5, .log2ceilS128 1 2, "log2ceil.s128")] = true := by decide +kernel

theorem test_decode_modmul : decodesTo [
  (0x0008D108, .modmulU8 1 2 3 4, "modmul.u8"), (0x0008D118, .modmulU16 1 2 3 4, "modmul.u16"),
  (0x0008D128, .modmulU32 1 2 3 4, "modmul.u32"), (0x0008D138, .modmulU64 1 2 3 4, "modmul.u64"),
  (0x0008D148, .modmulU128 1 2 3 4, "modmul.u128"), (0x0008D188, .modmulS8 1 2 3 4, "modmul.s8"),
  (0x0008D198, .modmulS16 1 2 3 4, "modmul.s16"), (0x0008D1A8, .modmulS32 1 2 3 4, "modmul.s32"),
  (0x0008D1B8, .modmulS64 1 2 3 4, "modmul.s64"), (0x0008D1C8, .modmulS128 1 2 3 4, "modmul.s128")] = true := by decide +kernel

theorem test_decode_modpow : decodesTo [
  (0x0008D109, .modpowU8 1 2 3 4, "modpow.u8"), (0x0008D119, .modpowU16 1 2 3 4, "modpow.u16"),
  (0x0008D129, .modpowU32 1 2 3 4, "modpow.u32"), (0x0008D139, .modpowU64 1 2 3 4, "modpow.u64"),
  (0x0008D149, .modpowU128 1 2 3 4, "modpow.u128"), (0x0008D189, .modpowS8 1 2 3 4, "modpow.s8"),
  (0x0008D199, .modpowS16 1 2 3 4, "modpow.s16"), (0x0008D1A9, .modpowS32 1 2 3 4, "modpow.s32"),
  (0x0008D1B9, .modpowS64 1 2 3 4, "modpow.s64"), (0x0008D1C9, .modpowS128 1 2 3 4, "modpow.s128")] = true := by decide +kernel

theorem test_decode_modpowm : decodesTo [
  (0x00D8D109, .modpowmU8 1 2 3 4 5, "modpowm.u8"), (0x00D8D119, .modpowmU16 1 2 3 4 5, "modpowm.u16"),
  (0x00D8D129, .modpowmU32 1 2 3 4 5, "modpowm.u32"), (0x00D8D139, .modpowmU64 1 2 3 4 5, "modpowm.u64"),
  (0x00D8D149, .modpowmU128 1 2 3 4 5, "modpowm.u128"), (0x00D8D189, .modpowmS8 1 2 3 4 5, "modpowm.s8"),
  (0x00D8D199, .modpowmS16 1 2 3 4 5, "modpowm.s16"), (0x00D8D1A9, .modpowmS32 1 2 3 4 5, "modpowm.s32"),
  (0x00D8D1B9, .modpowmS64 1 2 3 4 5, "modpowm.s64"), (0x00D8D1C9, .modpowmS128 1 2 3 4 5, "modpowm.s128")] = true := by decide +kernel

theorem test_decode_modinv : decodesTo [
  (0x0000D10A, .modinvU8 1 2 3, "modinv.u8"), (0x0000D11A, .modinvU16 1 2 3, "modinv.u16"),
  (0x0000D12A, .modinvU32 1 2 3, "modinv.u32"), (0x0000D13A, .modinvU64 1 2 3, "modinv.u64"),
  (0x0000D14A, .modinvU128 1 2 3, "modinv.u128"), (0x0000D18A, .modinvS8 1 2 3, "modinv.s8"),
  (0x0000D19A, .modinvS16 1 2 3, "modinv.s16"), (0x0000D1AA, .modinvS32 1 2 3, "modinv.s32"),
  (0x0000D1BA, .modinvS64 1 2 3, "modinv.s64"), (0x0000D1CA, .modinvS128 1 2 3, "modinv.s128")] = true := by decide +kernel

/-! ## One step each: one or two of the vectors V1 to V413 of `95_test_vectors.md` and
`96_test_vectors_modarith_programs.md` for every command: the word, the sources in `r1`, `r2`, ..., the response, and
`r0` afterwards when it is written -/

theorem test_bitcount : stepsAsStated [
  /- V3 -/ ⟨0x00000801, [0xff], .ok, some 0x8⟩,
  /- V8 -/ ⟨0x00000811, [0xffff], .ok, some 0x10⟩,
  /- V10 -/ ⟨0x00000821, [0xdeadbeef], .ok, some 0x18⟩,
  /- V13 -/ ⟨0x00000831, [0x123456789abcdef], .ok, some 0x20⟩,
  /- V15 -/ ⟨0x00000841, [0x123456789abcdef0f1e2d3c4b5a6978], .ok, some 0x40⟩,
  /- V6 -/ ⟨0x00000881, [0xb7], .ok, some 0x6⟩,
  /- V9 -/ ⟨0x00000891, [0x8000], .ok, some 0x1⟩,
  /- V11 -/ ⟨0x000008A1, [0xffffffff], .ok, some 0x20⟩,
  /- V14 -/ ⟨0x000008B1, [0xffffffffffffffff], .ok, some 0x40⟩,
  /- V18 -/ ⟨0x000008C1, [0xffffffffffffffffffffffffffffffff], .ok, some 0x80⟩] = true := by decide +kernel

theorem test_revbits : stepsAsStated [
  /- V23 -/ ⟨0x00000802, [0xff], .ok, some 0xff⟩,
  /- V27 -/ ⟨0x00000812, [0xa5c3], .ok, some 0xc3a5⟩,
  /- V30 -/ ⟨0x00000822, [0xdeadbeef], .ok, some 0xf77db57b⟩,
  /- V32 -/ ⟨0x00000832, [0x123456789abcdef], .ok, some 0xf7b3d591e6a2c480⟩,
  /- V35 -/ ⟨0x00000842, [1], .ok, some 0x80000000000000000000000000000000⟩,
  /- V25 -/ ⟨0x00000882, [0xb7], .ok, some 0xed⟩,
  /- V28 -/ ⟨0x00000892, [0x8000], .ok, some 0x1⟩,
  /- V31 -/ ⟨0x000008A2, [1], .ok, some 0x80000000⟩,
  /- V34 -/ ⟨0x000008B2, [1], .ok, some 0x8000000000000000⟩,
  /- V37 -/ ⟨0x000008C2, [0xffffffffffffffffffffffffffffffff], .ok, some 0xffffffffffffffffffffffffffffffff⟩] = true := by decide +kernel

theorem test_ispow2 : stepsAsStated [
  /- V40 -/ ⟨0x00000803, [1], .ok, some 0x1⟩,
  /- V49 -/ ⟨0x00000813, [0x8000], .ok, some 0x1⟩,
  /- V53 -/ ⟨0x00000823, [0x80000000], .ok, some 0x1⟩,
  /- V57 -/ ⟨0x00000833, [0x8000000000000000], .ok, some 0x1⟩,
  /- V62 -/ ⟨0x00000843, [0x80000000000000000000000000000000], .ok, some 0x1⟩,
  /- V68 -/ ⟨0x00000853, [0x3c00], .ok, some 0x1⟩,
  /- V86 -/ ⟨0x00000863, [0x3f800000], .ok, some 0x1⟩,
  /- V104 -/ ⟨0x00000873, [0x3ff0000000000000], .ok, some 0x1⟩,
  /- V46 -/ ⟨0x00000883, [0x40], .ok, some 0x1⟩,
  /- V52 -/ ⟨0x00000893, [0x4000], .ok, some 0x1⟩,
  /- V56 -/ ⟨0x000008A3, [0x10000], .ok, some 0x1⟩,
  /- V61 -/ ⟨0x000008B3, [0x4000000000000000], .ok, some 0x1⟩,
  /- V67 -/ ⟨0x000008C3, [0x40000000000000000000000000000000], .ok, some 0x1⟩] = true := by decide +kernel

theorem test_log2floor : stepsAsStated [
  /- V137 -/ ⟨0x00000804, [0x80], .ok, some 0x7⟩,
  /- V153 -/ ⟨0x00000814, [0x8000], .ok, some 0xf⟩,
  /- V163 -/ ⟨0x00000824, [0x80000000], .ok, some 0x1f⟩,
  /- V175 -/ ⟨0x00000834, [0x8000000000000000], .ok, some 0x3f⟩,
  /- V207 -/ ⟨0x00000844, [0x80000000000000000000000000000000], .ok, some 0x7f⟩,
  /- V223 -/ ⟨0x00000854, [0x3a00], .ok, some 0xffffffffffffffffffffffffffffffff⟩,
  /- V263 -/ ⟨0x00000864, [0x3f400000], .ok, some 0xffffffffffffffffffffffffffffffff⟩,
  /- V299 -/ ⟨0x00000874, [0x3fe8000000000000], .ok, some 0xffffffffffffffffffffffffffffffff⟩,
  /- V145 -/ ⟨0x00000884, [0x7f], .ok, some 0x6⟩,
  /- V159 -/ ⟨0x00000894, [0x7fff], .ok, some 0xe⟩,
  /- V171 -/ ⟨0x000008A4, [0x7fffffff], .ok, some 0x1e⟩,
  /- V185 -/ ⟨0x000008B4, [0x7fffffffffffffff], .ok, some 0x3e⟩,
  /- V215 -/ ⟨0x000008C4, [0x7fffffffffffffffffffffffffffffff], .ok, some 0x7e⟩] = true := by decide +kernel

theorem test_log2floor_errors : stepsAsStated [
  /- V141 -/ ⟨0x00000804, [0], .eNonpos, none⟩,
  /- V157 -/ ⟨0x00000814, [0], .eNonpos, none⟩,
  /- V183 -/ ⟨0x00000834, [0], .eNonpos, none⟩,
  /- V213 -/ ⟨0x00000844, [0], .eNonpos, none⟩,
  /- V249 -/ ⟨0x00000854, [0x7c00], .eNonfinite, none⟩,
  /- V285 -/ ⟨0x00000864, [0x7f800000], .eNonfinite, none⟩,
  /- V325 -/ ⟨0x00000874, [0x7ff0000000000000], .eNonfinite, none⟩,
  /- V147 -/ ⟨0x00000884, [0x80], .eNonpos, none⟩,
  /- V161 -/ ⟨0x00000894, [0x8000], .eNonpos, none⟩,
  /- V173 -/ ⟨0x000008A4, [0xffffffff], .eNonpos, none⟩,
  /- V187 -/ ⟨0x000008B4, [0x8000000000000000], .eNonpos, none⟩,
  /- V217 -/ ⟨0x000008C4, [0x80000000000000000000000000000000], .eNonpos, none⟩] = true := by decide +kernel

theorem test_log2ceil : stepsAsStated [
  /- V140 -/ ⟨0x00000805, [0xff], .ok, some 0x8⟩,
  /- V156 -/ ⟨0x00000815, [0x8001], .ok, some 0x10⟩,
  /- V166 -/ ⟨0x00000825, [0x80000001], .ok, some 0x20⟩,
  /- V178 -/ ⟨0x00000835, [0x8000000000000001], .ok, some 0x40⟩,
  /- V210 -/ ⟨0x00000845, [0x80000000000000000000000000000001], .ok, some 0x80⟩,
  /- V232 -/ ⟨0x00000855, [0x400], .ok, some 0xfffffffffffffffffffffffffffffff2⟩,
  /- V270 -/ ⟨0x00000865, [0x800000], .ok, some 0xffffffffffffffffffffffffffffff82⟩,
  /- V302 -/ ⟨0x00000875, [0x3fe0000000000000], .ok, some 0xffffffffffffffffffffffffffffffff⟩,
  /- V146 -/ ⟨0x00000885, [0x7f], .ok, some 0x7⟩,
  /- V160 -/ ⟨0x00000895, [0x7fff], .ok, some 0xf⟩,
  /- V172 -/ ⟨0x000008A5, [0x7fffffff], .ok, some 0x1f⟩,
  /- V186 -/ ⟨0x000008B5, [0x7fffffffffffffff], .ok, some 0x3f⟩,
  /- V216 -/ ⟨0x000008C5, [0x7fffffffffffffffffffffffffffffff], .ok, some 0x7f⟩] = true := by decide +kernel

theorem test_log2ceil_errors : stepsAsStated [
  /- V142 -/ ⟨0x00000805, [0], .eNonpos, none⟩,
  /- V158 -/ ⟨0x00000815, [0], .eNonpos, none⟩,
  /- V184 -/ ⟨0x00000835, [0], .eNonpos, none⟩,
  /- V214 -/ ⟨0x00000845, [0], .eNonpos, none⟩,
  /- V250 -/ ⟨0x00000855, [0x7c00], .eNonfinite, none⟩,
  /- V286 -/ ⟨0x00000865, [0x7f800000], .eNonfinite, none⟩,
  /- V326 -/ ⟨0x00000875, [0x7ff0000000000000], .eNonfinite, none⟩,
  /- V148 -/ ⟨0x00000885, [0x80], .eNonpos, none⟩,
  /- V162 -/ ⟨0x00000895, [0x8000], .eNonpos, none⟩,
  /- V174 -/ ⟨0x000008A5, [0xffffffff], .eNonpos, none⟩,
  /- V188 -/ ⟨0x000008B5, [0x8000000000000000], .eNonpos, none⟩,
  /- V218 -/ ⟨0x000008C5, [0x80000000000000000000000000000000], .eNonpos, none⟩] = true := by decide +kernel

theorem test_modmul : stepsAsStated [
  /- V335 -/ ⟨0x00068808, [7, 3, 4], .ok, some 0x5⟩,
  /- V341 -/ ⟨0x00068818, [0xfff1, 0xfff0, 0xffef], .ok, some 0x2⟩,
  /- V342 -/ ⟨0x00068828, [0xfffffffb, 0xfffffffa, 0xfffffff9], .ok, some 0x2⟩,
  /- V343 -/ ⟨0x00068838, [0xffffffffffffffc5, 0xffffffffffffffc4, 0xffffffffffffffc3], .ok, some 0x2⟩,
  /- V344 -/ ⟨0x00068848, [0xffffffffffffffffffffffffffffff61, 0xffffffffffffffffffffffffffffffff, 0xfffffffffffffffffffffffffffffffe], .ok, some 0x60e6⟩,
  /- V346 -/ ⟨0x00068888, [7, 0xf3, 5], .ok, some 0x5⟩,
  /- by hand -/ ⟨0x00068898, [7, 0xfff3, 5], .ok, some 0x5⟩,
  /- V351 -/ ⟨0x000688A8, [0x3b9aca07, 0xffffffff, 1], .ok, some 0x3b9aca06⟩,
  /- V352 -/ ⟨0x000688B8, [0x8000000000000000, 0xffffffffffffffff, 0xffffffffffffffff], .ok, some 0x1⟩,
  /- V353 -/ ⟨0x000688C8, [0x7fffffffffffffffffffffffffffffff, 0xfffffffffffffffffffffffffffffffe, 3], .ok, some 0x7ffffffffffffffffffffffffffffff9⟩] = true := by decide +kernel

theorem test_modmul_errors : stepsAsStated [
  /- V340 -/ ⟨0x00068808, [0, 5, 6], .fDivzero, none⟩,
  /- V345 -/ ⟨0x00068848, [0, 1, 1], .fDivzero, none⟩,
  /- V354 -/ ⟨0x00068898, [0, 1, 1], .fDivzero, none⟩] = true := by decide +kernel

theorem test_modpow : stepsAsStated [
  /- V362 -/ ⟨0x00068809, [0xff, 2, 0xff], .ok, some 0x80⟩,
  /- V406 -/ ⟨0x00068819, [0xfff1, 2, 0xfff0], .ok, some 0x1⟩,
  /- V365 -/ ⟨0x00068829, [0x3b9aca07, 2, 0x3b9aca05], .ok, some 0x1dcd6504⟩,
  /- V367 -/ ⟨0x00068839, [0xffffffffffffffc5, 2, 0xffffffffffffffc3], .ok, some 0x7fffffffffffffe3⟩,
  /- V368 -/ ⟨0x00068849, [0x7fffffffffffffffffffffffffffffff, 3, 0x7ffffffffffffffffffffffffffffffd], .ok, some 0x55555555555555555555555555555555⟩,
  /- V374 -/ ⟨0x00068889, [0x7f, 3, 0x80], .ok, some 0x71⟩,
  /- V377 -/ ⟨0x00068899, [0xffef, 0xd, 0xffff], .ok, some 0x4⟩,
  /- by hand -/ ⟨0x000688A9, [0x11, 0xd, 0xffffffff], .ok, some 0x4⟩,
  /- V382 -/ ⟨0x000688B9, [0x3b9aca07, 2, 0xffffffffffffffff], .ok, some 0x1dcd6504⟩,
  /- V383 -/ ⟨0x000688C9, [0x7fffffffffffffffffffffffffffffff, 3, 0xffffffffffffffffffffffffffffffff], .ok, some 0x55555555555555555555555555555555⟩] = true := by decide +kernel

theorem test_modpow_errors : stepsAsStated [
  /- V363 -/ ⟨0x00068809, [0, 2, 3], .fDivzero, none⟩,
  /- V373 -/ ⟨0x00068889, [0, 4, 0xff], .fDivzero, none⟩] = true := by decide +kernel

theorem test_modpowm : stepsAsStated [
  /- V358 -/ ⟨0x00C68809, [0x11, 0xd, 0, 0x28], .ok, some 0x6⟩,
  /- V407 -/ ⟨0x00C68819, [0xfff1, 2, 0x10, 3], .ok, some 0x2d⟩,
  /- V356 -/ ⟨0x00C68829, [0x3e8, 3, 0xd, 7], .ok, some 0x105⟩,
  /- V408 -/ ⟨0x00C68839, [0xffffffffffffffc5, 2, 0x40, 5], .ok, some 0x127⟩,
  /- by hand -/ ⟨0x00C68849, [0x3e8, 3, 0xd, 7], .ok, some 0x105⟩,
  /- V380 -/ ⟨0x00C68889, [0x11, 3, 0xfe, 5], .ok, some 0xa⟩,
  /- V409 -/ ⟨0x00C68899, [0xffef, 0xd, 0xffff, 0xfffb], .ok, some 0xe⟩,
  /- by hand -/ ⟨0x00C688A9, [0x11, 3, 0xfffffffe, 5], .ok, some 0xa⟩,
  /- V410 -/ ⟨0x00C688B9, [0x7fffffffffffffff, 2, 0x3f, 0xffffffffffffffff], .ok, some 0x7ffffffffffffffe⟩,
  /- V411 -/ ⟨0x00C688C9, [0x7fffffffffffffffffffffffffffffff, 2, 0x7f, 0xfffffffffffffffffffffffffffffffd], .ok, some 0x7ffffffffffffffffffffffffffffffc⟩] = true := by decide +kernel

theorem test_modinv : stepsAsStated [
  /- V393 -/ ⟨0x0000880A, [0xff, 0xfe], .ok, some 0xfe⟩,
  /- V395 -/ ⟨0x0000881A, [0xfff1, 2], .ok, some 0x7ff9⟩,
  /- V396 -/ ⟨0x0000882A, [0x3b9aca07, 2], .ok, some 0x1dcd6504⟩,
  /- V397 -/ ⟨0x0000883A, [0xffffffffffffffc5, 2], .ok, some 0x7fffffffffffffe3⟩,
  /- V399 -/ ⟨0x0000884A, [0xffffffffffffffffffffffffffffff61, 0xffffffffffffffffffffffffffffff60], .ok, some 0xffffffffffffffffffffffffffffff60⟩,
  /- V403 -/ ⟨0x0000888A, [0x80, 3], .ok, some 0x2b⟩,
  /- V412 -/ ⟨0x0000889A, [0x8000, 3], .ok, some 0x2aab⟩,
  /- by hand -/ ⟨0x000088AA, [0x11, 0xd], .ok, some 0x4⟩,
  /- V405 -/ ⟨0x000088BA, [0xffffffffc46535f9, 0xfffffffffffffffe], .ok, some 0x1dcd6503⟩,
  /- V413 -/ ⟨0x000088CA, [0x7fffffffffffffffffffffffffffffff, 0xfffffffffffffffffffffffffffffffe], .ok, some 0x3fffffffffffffffffffffffffffffff⟩] = true := by decide +kernel

theorem test_modinv_errors : stepsAsStated [
  /- V391 -/ ⟨0x0000880A, [0, 5], .fDivzero, none⟩,
  /- V404 -/ ⟨0x0000888A, [0x80, 2], .eNoinv, none⟩] = true := by decide +kernel

/-! ## Reset, the other transactions, the halt, and a program -/

theorem test_reset : State.reset.status = 0 ∧ State.reset.response = none ∧ State.reset.script = [] ∧
    State.reset.written.toList = List.replicate 8 false := by decide

/-- A word put where the first step takes it is what the first step runs (R45). -/
theorem test_first_step_from_reset :
    (after (State.reset.withFetchWord 32 0x00000801)).response = some (.outcome .ok) ∧
    (after (State.reset.withFetchWord 32 0)).response = some (.outcome .eIllegal) ∧
    step State.reset = .next State.reset :=
  ⟨by decide +kernel, by decide +kernel, rfl⟩

theorem test_write_and_read_register :
    (after (after (scripted [.writeReg 7 0xABC, .readReg 7] State.reset))).response = some (.register 0xABC) := by
  decide +kernel

theorem test_read_csr :
    (after (scripted [.readCsr 0] halted)).response = some (.csr 0x104) ∧
    (after (scripted [.readCsr 3] halted)).response = some (.csr 0) := by decide +kernel

/-- A halted block refuses a legal and an illegal word alike, and Reset ends the halt (R207). -/
theorem test_halted_block :
    (after (scripted [.issue 0x00000801] halted)).response = some (.outcome .eHalted) ∧
    (after (scripted [.issue 0] halted)).response = some (.outcome .eHalted) ∧
    (after (scripted [.issue 0] halted)).status = 0x104 ∧
    (after (scripted [.reset] halted)).status = 0 := by decide +kernel

/-- The text of a command, and what `modpow` with five operands assembles to (R70, R71). -/
theorem test_written_form :
    commandText (.modpowmU32 0 1 2 3 4) = "modpowm.u32 r0, r1, r2, r3, r4" ∧
    (Line.command .modpow (.int .u32) [0, 1, 2, 3, 4]).txn = some (.issue 0x00C68829) ∧
    (Line.wreg 1 (-1)).txn = some (.writeReg 1 (BitVec.allOnes 128)) ∧
    (Line.command .bitcount (.float .f16) [0, 1]).txn = none := by decide +kernel

/-! ## The hypotheses of each obligation can be met: concrete states and operands, the boundary of each clause -/

theorem witness_LegalWordIsItsCommandsWord : decode 0x00C68FB9 = .ok (.modpowmS64 7 1 2 3 4) := by decide +kernel

theorem witness_IllegalWordsAreThoseOfTheSixClauses :
    (fieldsOf 0x00000006).illegal = true ∧ State.reset.halted = false := by decide

theorem witness_WordIsTheCommandOfTheRowItMatches :
    (legalPair .modpowm (.int .s64) = true ∧
      (0x00C68FB9 : CommandWord) &&& rowMask .modpowm = rowMatch .modpowm (.int .s64)) ∧
    (∀ stem F, legalPair stem F = true → (0 : CommandWord) &&& rowMask stem ≠ rowMatch stem F) ∧
    decode 0x00C68FB9 = .ok (.modpowmS64 7 1 2 3 4) := by
  refine ⟨by decide +kernel, ?_, by decide +kernel⟩
  intro stem F _
  cases F with
  | int f => cases stem <;> cases f <;> decide
  | float f => cases stem <;> cases f <;> decide

theorem witness_StepRunsTheDecodedCommand :
    (scripted [.issue 0x00000801] (holding [5])).script = [.issue 0x00000801] ∧
    (scripted [.issue 0x00000801] (holding [5])).halted = false ∧
    decode 0x00000801 = .ok (.bitcountU8 0 1) := by decide +kernel

theorem witness_WriteRegSetsOneRegisterAndNothingElse :
    (scripted [.writeReg 0 1] halted).script = [.writeReg 0 1] ∧
    (scripted [.writeReg 7 1] halted).script = [.writeReg 7 1] ∧
    pat 8 (0x105 : Word) = pat 8 (5 : Word) ∧ pat 16 (0x17C00 : Word) = pat 16 (0x7C00 : Word) :=
  ⟨rfl, rfl, by decide, by decide⟩

theorem witness_ReadRegReturnsTheRegisterAndChangesNothing :
    (scripted [.readReg 1, .readReg 1] halted).script = [.readReg 1, .readReg 1] ∧
    (scripted [.readReg 1, .readReg 1] halted).written[(1 : Reg)] = true := by decide +kernel

theorem witness_UnwrittenRegisterReadsAsAFreeValue :
    (scripted [.readReg 7] State.reset).script = [.readReg 7] ∧
    (scripted [.readReg 7] State.reset).written[(7 : Reg)] = false := by decide +kernel

theorem witness_ReadCsrReturnsStatusForZeroAndZeroElse :
    (scripted [.readCsr 0] halted).script = [.readCsr 0] ∧
    (scripted [.readCsr 1] halted).script = [.readCsr 1] := ⟨rfl, rfl⟩

theorem witness_ResetClearsStatusAndUnwritesRegisters : (scripted [.reset] halted).script = [.reset] := rfl

theorem witness_NextTransactionSeesTheWriteBefore :
    (scripted [.writeReg 7 1, .readReg 7] halted).script = [.writeReg 7 1, .readReg 7] ∧
    (scripted [.issue 0x00000801, .readReg 0] (holding [5])).script =
      [.issue 0x00000801, .readReg (Instr.rd (.bitcountU8 0 1))] ∧
    decode 0x00000801 = .ok (.bitcountU8 0 1) ∧
    ∃ t, step (scripted [.issue 0x00000801, .readReg 0] (holding [5])) = .next t ∧
      t.response = some (.outcome .ok) :=
  ⟨rfl, rfl, by decide +kernel, _, rfl, rfl⟩

/-- ReadCSR(0) after an Issue of a legal and of an illegal word; a command after a WriteReg of its source; a command after
one that ended OK, whose RD is its source. -/
theorem witness_NextTransactionSeesTheWriteBefore_csr_and_command :
    ((scripted [.issue 0x00000801, .readCsr 0] (holding [5])).script = [.issue 0x00000801, .readCsr 0] ∧
      (scripted [.issue 0x00000801, .readCsr 0] (holding [5])).halted = false) ∧
    ((scripted [.issue 0, .readCsr 0] (holding [5])).script = [.issue 0, .readCsr 0] ∧
      (scripted [.issue 0, .readCsr 0] (holding [5])).halted = false) ∧
    ((scripted [.writeReg 1 7, .issue 0x00000801] (holding [5])).script = [.writeReg 1 7, .issue 0x00000801] ∧
      (scripted [.writeReg 1 7, .issue 0x00000801] (holding [5])).halted = false ∧
      decode 0x00000801 = .ok (.bitcountU8 0 1)) ∧
    decode 0x00000001 = .ok (.bitcountU8 0 0) ∧
    ∃ t, step (scripted [.issue 0x00000801, .issue 0x00000001] (holding [5])) = .next t ∧
      t.response = some (.outcome .ok) :=
  ⟨⟨rfl, by decide⟩, ⟨rfl, by decide⟩, ⟨rfl, by decide, by decide +kernel⟩, by decide +kernel, _, rfl, rfl⟩

theorem witness_HaltedBlockRefusesEveryIssue :
    StatusReachable halted ∧ halted.halted = true ∧
    (scripted [.issue 0x00000801] halted).script = [.issue 0x00000801] ∧
    (scripted [.issue 0] halted).script = [.issue 0] ∧
    (scripted [.writeReg 0 1] halted).script = [.writeReg 0 1] ∧
    (scripted [.readReg 7] halted).script = [.readReg 7] ∧
    (scripted [.readCsr 0] halted).script = [.readCsr 0] ∧
    ∃ t, step (scripted [.reset] halted) = .next t ∧ t.halted = false :=
  ⟨.inr (.inr (.inr (.inr (.inr rfl)))), rfl, rfl, rfl, rfl, rfl, rfl, _, rfl, rfl⟩

/-- `modinv.u8` with a zero modulus halts the block; a Reset makes a halted block ready. -/
theorem witness_OnlyDivzeroSetsAndOnlyResetClearsFault :
    (∃ t, step (scripted [.issue 0x0000880A] (holding [0, 3])) = .next t ∧ t.halted = true ∧
      (scripted [.issue 0x0000880A] (holding [0, 3])).halted = false) ∧
    (∃ t, step (scripted [.reset] halted) = .next t ∧ t.halted = false ∧ (scripted [.reset] halted).halted = true) :=
  ⟨⟨_, rfl, by decide +kernel, by decide +kernel⟩, ⟨_, rfl, by decide +kernel, by decide +kernel⟩⟩

theorem witness_EveryStepKeepsStatusLegal :
    StatusReachable (scripted [.issue 0x0000880A] (holding [0, 3])) ∧
    ∃ t, step (scripted [.issue 0x0000880A] (holding [0, 3])) = .next t :=
  ⟨.inl rfl, _, rfl⟩

/-- One command that ends OK, one with a domain error, one with the fatal fault. -/
theorem witness_CommandChangesOnlyRdCodeAndFault :
    (∃ t, exec (.bitcountU8 0 1) (holding [5]) = .next t ∧ t.response = some (.outcome .ok)) ∧
    (∃ t, exec (.log2floorU8 0 1) (holding [0]) = .next t ∧ t.response = some (.outcome .eNonpos)) ∧
    (∃ t, exec (.modinvU8 0 1 2) (holding [0, 3]) = .next t ∧ t.response = some (.outcome .fDivzero)) :=
  ⟨⟨_, rfl, by decide +kernel⟩, ⟨_, rfl, by decide +kernel⟩, ⟨_, rfl, by decide +kernel⟩⟩

/-- One outcome for each row of the table of R201, the errors where there is one. -/
theorem witness_EachFamilyRaisesOnlyItsOwnOutcomes :
    (∃ t, exec (.ispow2F16 0 1) (holding [0x7C00]) = .next t ∧ t.response = some (.outcome .ok)) ∧
    (∃ t, exec (.log2ceilS8 0 1) (holding [0x80]) = .next t ∧ t.response = some (.outcome .eNonpos)) ∧
    (∃ t, exec (.log2floorF16 0 1) (holding [0x7C00]) = .next t ∧ t.response = some (.outcome .eNonfinite)) ∧
    (∃ t, exec (.modmulU8 0 1 2 3) (holding [0, 1, 1]) = .next t ∧ t.response = some (.outcome .fDivzero)) ∧
    (∃ t, exec (.modpowS8 0 1 2 3) (holding [10, 4, 0xFF]) = .next t ∧ t.response = some (.outcome .eNoinv)) :=
  ⟨⟨_, rfl, by decide +kernel⟩, ⟨_, rfl, by decide +kernel⟩, ⟨_, rfl, by decide +kernel⟩, ⟨_, rfl, by decide +kernel⟩,
    ⟨_, rfl, by decide +kernel⟩⟩

/-- Two states that agree on the low 8 bits of `r1` and differ above them, in STATUS and in `r2`. -/
theorem witness_OutcomeDependsOnSourceBitsAlone :
    (∀ r ∈ Instr.sources (.bitcountU8 0 1), pat 8 ((holding [5]).operand r) =
      pat 8 ({ holding [0x105, 9] with status := 5 }.operand r)) ∧
    ∃ t t', exec (.bitcountU8 0 1) (holding [5]) = .next t ∧
      exec (.bitcountU8 0 1) { holding [0x105, 9] with status := 5 } = .next t' := by
  refine ⟨?_, _, _, rfl, rfl⟩
  intro r hr
  have : r = 1 := by simpa [Instr.sources, Instr.parts, Stem.shape] using hr
  subst this
  decide +kernel

theorem witness_LogarithmImageIsTheNumberSignExtended :
    (-(2 ^ 31) ≤ (-(2 ^ 31) : Int) ∧ (-(2 ^ 31) : Int) < 2 ^ 31) ∧
    (-(2 ^ 31) ≤ (2 ^ 31 - 1 : Int) ∧ (2 ^ 31 - 1 : Int) < 2 ^ 31) := by decide

theorem witness_ClzCountsTheZerosAboveTheHighestOne :
    (1 : BitVec 8) ≠ 0 ∧ clz (1 : BitVec 8) = 7 ∧ (0x80 : BitVec 8) ≠ 0 ∧ clz (0x80 : BitVec 8) = 0 := by decide

theorem witness_IntegerLogarithmsBracketTheirArgument :
    0 < 1 ∧ 1 < 2 ∧ ilog2ceil 2 = 1 ∧ ilog2ceil 3 = 2 ∧ ilog2floor 3 = 1 := by decide

theorem witness_BitcountOfAllOnesZeroAndSingleBits :
    pat 8 ((holding [0xFF]).operand 1) = BitVec.allOnes 8 ∧ pat 8 ((holding [0x100]).operand 1) = 0 ∧
    (0 < 8 ∧ pat 8 ((holding [1]).operand 1) = BitVec.twoPow 8 0) ∧
    (7 < 8 ∧ pat 8 ((holding [0x80]).operand 1) = BitVec.twoPow 8 7) ∧
    IntFormat.width .s8 = IntFormat.width .u8 := by decide +kernel

/-- One width in one format and in two; two widths, the narrower first and the wider first. -/
theorem witness_RevbitsTwiceRestoresThePattern :
    (IntFormat.width .u8 = IntFormat.width .u8 ∧ IntFormat.width .s8 = IntFormat.width .u8 ∧
      ∃ t, exec (.revbitsInt .u8 0 1) (holding [0x4B]) = .next t) ∧
    (IntFormat.width .u16 ≠ IntFormat.width .u8 ∧ pat (IntFormat.width .u8) ((holding [1]).operand 1) = 1 ∧
      ∃ t, exec (.revbitsInt .u8 0 1) (holding [1]) = .next t) ∧
    (IntFormat.width .s8 ≠ IntFormat.width .u128 ∧ pat (IntFormat.width .u128) ((holding [1]).operand 1) = 1 ∧
      ∃ t, exec (.revbitsInt .u128 0 1) (holding [1]) = .next t) :=
  ⟨⟨rfl, rfl, _, rfl⟩, ⟨by decide, by decide +kernel, _, rfl⟩, ⟨by decide, by decide +kernel, _, rfl⟩⟩

/-- For `Log2floorOfAnIntegerIsTheFloor`, `Log2ceilOfAnIntegerIsTheCeiling`, `Log2ceilIsLog2floorOrOneMore` and
`IntegerLogarithmsAreInRange`: the least and a greatest positive value, and two values that are not positive. -/
theorem witness_Log2OfAnInteger :
    0 < value .u8 ((holding [1]).operand 1) ∧ 0 < value .s128 ((holding [2 ^ 127 - 1]).operand 1) ∧
    value .u8 ((holding [0x100]).operand 1) ≤ 0 ∧ value .s128 ((holding [2 ^ 127]).operand 1) ≤ 0 := by decide +kernel

/-- For `Log2floorOfAFloatIsTheFloor`, `Log2ceilOfAFloatIsTheCeiling` and `FloatLogarithmsAreInRange`. The least
subnormal and the greatest finite number of `f16`; both zeros, -infinity and the least negative number;
+infinity and a NaN of each sign. -/
theorem witness_Log2OfAFloat :
    PositiveFinite .f16 (decompose .f16 ((holding [0x0001]).operand 1)) ∧
    PositiveFinite .f16 (decompose .f16 ((holding [0x7BFF]).operand 1)) ∧
    NotAboveZero .f16 (decompose .f16 ((holding [0x0000]).operand 1)) ∧
    NotAboveZero .f16 (decompose .f16 ((holding [0x8000]).operand 1)) ∧
    NotAboveZero .f16 (decompose .f16 ((holding [0xFC00]).operand 1)) ∧
    NotAboveZero .f16 (decompose .f16 ((holding [0x8001]).operand 1)) ∧
    NotFinite .f16 (decompose .f16 ((holding [0x7C00]).operand 1)) ∧
    NotFinite .f16 (decompose .f16 ((holding [0x7E00]).operand 1)) ∧
    NotFinite .f16 (decompose .f16 ((holding [0xFE00]).operand 1)) := by
  unfold PositiveFinite NotAboveZero NotFinite
  decide +kernel

/-- No pattern of `f16` falls under two of the three clauses of the logarithm of a float, and each falls under one. -/
theorem test_float_log_clauses_exclude_each_other : ∀ d ∈ [(⟨false, 0, 0⟩ : FloatParts), ⟨true, 0, 0⟩, ⟨false, 0, 1⟩,
    ⟨true, 0, 1⟩, ⟨false, 1, 0⟩, ⟨true, 30, 5⟩, ⟨false, 31, 0⟩, ⟨true, 31, 0⟩, ⟨false, 31, 1⟩, ⟨true, 31, 1⟩],
    (PositiveFinite .f16 d ∧ ¬NotAboveZero .f16 d ∧ ¬NotFinite .f16 d) ∨
    (¬PositiveFinite .f16 d ∧ NotAboveZero .f16 d ∧ ¬NotFinite .f16 d) ∨
    (¬PositiveFinite .f16 d ∧ ¬NotAboveZero .f16 d ∧ NotFinite .f16 d) := by
  unfold PositiveFinite NotAboveZero NotFinite
  decide +kernel

theorem witness_GreatestDoubleHasFloor1023AndCeiling1024 :
    pat 64 ((holding [0x7FEFFFFFFFFFFFFF]).operand 1) = 0x7FEFFFFFFFFFFFFF := by decide +kernel

theorem witness_ZeroModulusIsTheFatalFault :
    value .u8 ((holding [0]).operand 1) = 0 ∧ value .s8 ((holding [0x100]).operand 1) = 0 := by decide +kernel

theorem witness_ModmulIsTheResidueOfTheExactProduct :
    value .s8 ((holding [0x80, 1, 1]).operand 1) ≠ 0 ∧ value .s8 ((holding [0, 1, 1]).operand 1) = 0 := by decide +kernel

/-- The four clauses of the power: a zero modulus; exponent 0; exponent -128 and a base coprime with the modulus;
exponent -1 and a base that is not. -/
theorem witness_ModpowIsTheResidueOfThePower :
    (value .s8 ((holding [0, 3, 0x80]).operand 1)).natAbs = 0 ∧
    (0 < (value .s8 ((holding [0x11, 3, 0]).operand 1)).natAbs ∧ 0 ≤ value .s8 ((holding [0x11, 3, 0]).operand 3)) ∧
    (0 < (value .s8 ((holding [0x7F, 3, 0x80]).operand 1)).natAbs ∧ value .s8 ((holding [0x7F, 3, 0x80]).operand 3) < 0 ∧
      Int.gcd (value .s8 ((holding [0x7F, 3, 0x80]).operand 2)) (value .s8 ((holding [0x7F, 3, 0x80]).operand 1)).natAbs
        = 1) ∧
    (0 < (value .s8 ((holding [10, 4, 0xFF]).operand 1)).natAbs ∧ value .s8 ((holding [10, 4, 0xFF]).operand 3) < 0 ∧
      1 < Int.gcd (value .s8 ((holding [10, 4, 0xFF]).operand 2)) (value .s8 ((holding [10, 4, 0xFF]).operand 1)).natAbs) :=
  by decide +kernel

/-- The four clauses of the multiplied power, as for MODPOW, with a multiplier; and a multiplier of 1. -/
theorem witness_ModpowmIsTheResidueOfTheMultipliedPower :
    (value .s8 ((holding [0, 3, 0x80, 5]).operand 1)).natAbs = 0 ∧
    (0 < (value .s8 ((holding [0x11, 3, 0, 0x28]).operand 1)).natAbs ∧
      0 ≤ value .s8 ((holding [0x11, 3, 0, 0x28]).operand 3)) ∧
    (0 < (value .s8 ((holding [0x7F, 3, 0x80, 5]).operand 1)).natAbs ∧
      value .s8 ((holding [0x7F, 3, 0x80, 5]).operand 3) < 0 ∧
      Int.gcd (value .s8 ((holding [0x7F, 3, 0x80, 5]).operand 2))
        (value .s8 ((holding [0x7F, 3, 0x80, 5]).operand 1)).natAbs = 1) ∧
    (0 < (value .s8 ((holding [10, 4, 0xFF, 5]).operand 1)).natAbs ∧
      value .s8 ((holding [10, 4, 0xFF, 5]).operand 3) < 0 ∧
      1 < Int.gcd (value .s8 ((holding [10, 4, 0xFF, 5]).operand 2))
        (value .s8 ((holding [10, 4, 0xFF, 5]).operand 1)).natAbs) ∧
    value .s8 ((holding [0x11, 3, 2, 1]).operand 4) = 1 := by decide +kernel

theorem witness_NegativeExponentIsThePowerOfTheInverse :
    (value .s8 (BitVec.ofNat 128 0xFD) < 0 ∧ modinv .s8 17 13 = .ok 4 ∧ value .s8 3 = -value .s8 (BitVec.ofNat 128 0xFD)) ∧
    value .s8 ((holding [17, 13, 0xFF]).operand 3) = -1 ∧
    (value .s8 ((holding [17, 13]).operand 1) = 17 ∧ value .s8 ((holding [17, 13]).operand 2) = 13) := by decide +kernel

theorem witness_ModinvIsTheInverse :
    (value .u8 ((holding [0, 4]).operand 1)).natAbs = 0 ∧
    (0 < (value .u8 ((holding [1, 0]).operand 1)).natAbs ∧
      Int.gcd (value .u8 ((holding [1, 0]).operand 2)) (value .u8 ((holding [1, 0]).operand 1)).natAbs = 1) ∧
    (0 < (value .u8 ((holding [10, 4]).operand 1)).natAbs ∧
      1 < Int.gcd (value .u8 ((holding [10, 4]).operand 2)) (value .u8 ((holding [10, 4]).operand 1)).natAbs) := by
  decide +kernel

theorem witness_InverseOfTheInverseIsTheResidue :
    ((0 : Reg) ≠ 1 ∧ (holding [0xF9, 13]).written[(1 : Reg)] = true ∧ 1 < |value .s8 ((holding [0xF9, 13]).operand 1)| ∧
      Int.gcd (value .s8 ((holding [0xF9, 13]).operand 2)) (value .s8 ((holding [0xF9, 13]).operand 1)) = 1 ∧
      ∃ t, exec (.modinvInt .s8 0 1 2) (holding [0xF9, 13]) = .next t) ∧
    (value .u8 ((holding [10, 4]).operand 1) ≠ 0 ∧
      1 < Int.gcd (value .u8 ((holding [10, 4]).operand 2)) (value .u8 ((holding [10, 4]).operand 1))) ∧
    (value .u8 ((holding [7, 13]).operand 1) = 7 ∧ value .u8 ((holding [7, 13]).operand 2) = 13) :=
  ⟨⟨by decide, by decide +kernel, by decide +kernel, by decide +kernel, _, rfl⟩, by decide +kernel, by decide +kernel⟩

/-- A modulus above 1, and the modulus 1. -/
theorem witness_ModmulOfAnOperandAndItsInverseIsOne :
    ((0 : Reg) ≠ 1 ∧ (0 : Reg) ≠ 2 ∧ (holding [7, 13]).written[(1 : Reg)] = true ∧
      (holding [7, 13]).written[(2 : Reg)] = true ∧ value .u8 ((holding [7, 13]).operand 1) ≠ 0 ∧
      Int.gcd (value .u8 ((holding [7, 13]).operand 2)) (value .u8 ((holding [7, 13]).operand 1)) = 1 ∧
      ∃ t, exec (.modinvInt .u8 0 1 2) (holding [7, 13]) = .next t) ∧
    ((holding [1, 5]).written[(1 : Reg)] = true ∧ (holding [1, 5]).written[(2 : Reg)] = true ∧
      value .u8 ((holding [1, 5]).operand 1) ≠ 0 ∧
      Int.gcd (value .u8 ((holding [1, 5]).operand 2)) (value .u8 ((holding [1, 5]).operand 1)) = 1 ∧
      ∃ t, exec (.modinvInt .u8 0 1 2) (holding [1, 5]) = .next t) :=
  ⟨⟨by decide, by decide, by decide +kernel, by decide +kernel, by decide +kernel, by decide +kernel, _, rfl⟩,
    by decide +kernel, by decide +kernel, by decide +kernel, by decide +kernel, _, rfl⟩

theorem witness_ModulusCountsByItsMagnitude :
    value .s8 (BitVec.ofNat 128 0xEF) = -value .s8 (BitVec.ofNat 128 0x11) := by decide +kernel

end Sys2Proof.Tests
end

/-! # Proofs: the memory transactions WriteReg and ReadCSR (R43, R47) -/

namespace Sys2Proof.Machine

open Sys2Proof.Safety

/-! ## What the transactions do, field by field -/

section

variable (s : State)

/-- A step that has a WriteReg before it performs it, halted or not (R43). -/
theorem step_writeReg {i : Reg} {v : Word} {rest : List Txn} (h : s.script = .writeReg i v :: rest) :
    step s = .next ((s.take rest).writeRegTxn i v) :=
  step_perform s h

/-- A step that has a ReadCSR before it performs it, halted or not (R47). -/
theorem step_readCsr {n : Nat} {rest : List Txn} (h : s.script = .readCsr n :: rest) :
    step s = .next ((s.take rest).readCsrTxn n) :=
  step_perform s h

@[simp] theorem operand_writeRegTxn (i j : Reg) (v : Word) :
    (s.writeRegTxn i v).operand j = if j = i then v else s.operand j :=
  operand_setReg s i j v

theorem writeRegTxn_written_self (i : Reg) (v : Word) : (s.writeRegTxn i v).written[i] = true := by
  simp

/-- A WriteReg touches no register but the one it names (R43). -/
theorem writeRegTxn_sameRegsBut (i : Reg) (v : Word) : SameRegsBut i s (s.writeRegTxn i v) := by
  intro r hr
  have hval : ¬i.val = r.val := fun e => hr (Fin.ext e.symm)
  constructor <;> simp [hval]

@[simp] theorem csr_zero : s.csr 0 = s.status :=
  if_pos rfl

theorem csr_of_ne_zero {n : Nat} (h : n ≠ 0) : s.csr n = 0 :=
  if_neg h

end

/-- The fields of a float depend on the low `W` bits of the register only (R10, R22). -/
theorem decompose_congr (F : FloatFormat) {p q : Word} (h : pat F.width p = pat F.width q) :
    decompose F p = decompose F q := by
  simp only [decompose, h]

/-! ## The statements -/

/-- Settles O9: the step is the WriteReg transaction itself, so the register clauses are its frame; the ignored upper
bits are the two congruences of an operand's reading. -/
theorem writeRegSetsOneRegisterAndNothingElse : Obligations.WriteRegSetsOneRegisterAndNothingElse := by
  intro s rest i v hscript
  refine ⟨⟨(s.take rest).writeRegTxn i v, step_writeReg s hscript, ?reads, ?marked, ?frame, rfl, rfl, rfl⟩,
    fun F _ => value_congr F, fun F _ => decompose_congr F⟩
  case reads => simp
  case marked => exact writeRegTxn_written_self (s.take rest) i v
  case frame => exact writeRegTxn_sameRegsBut (s.take rest) i v

/-- Settles O12: the step is the ReadCSR transaction itself, whose only effect is the response; the two cases are those
of the CSR number. -/
theorem readCsrReturnsStatusForZeroAndZeroElse : Obligations.ReadCsrReturnsStatusForZeroAndZeroElse := by
  intro s rest n hscript
  refine ⟨(s.take rest).readCsrTxn n, step_readCsr s hscript, ⟨rfl, rfl⟩, rfl, rfl, ?status, ?other⟩
  case status =>
    intro hn
    simp [hn]
  case other =>
    intro hn
    simp [csr_of_ne_zero _ hn]

end Sys2Proof.Machine

/-! # Proofs: the words of the opcode table and the illegal words (R65, R66) -/

namespace Sys2Proof

/-! ## The row of the opcode table, on the fields of a word -/

/-- The fields are those of a word of the row of `stem` and `F`: its codes, its M bit, and 0 wherever the row has no
operand (R61, R65). -/
structure Fields.InRow (f : Fields) (stem : Stem) (F : Format) : Prop where
  op : f.op = stem.code
  fmt : f.fmt = F.code
  m : f.m = stem.mBit
  zero : f.zero = 0
  unused : stem.shape.unusedZero f = true

section

variable {f : Fields} {stem stem' : Stem} {F F' : Format}

theorem Fields.inRow_iff : f.InRow stem F ↔
    f.op = stem.code ∧ f.fmt = F.code ∧ f.m = stem.mBit ∧ f.zero = 0 ∧ stem.shape.unusedZero f = true :=
  ⟨fun ⟨hop, hfmt, hm, hz, hu⟩ => ⟨hop, hfmt, hm, hz, hu⟩, fun ⟨hop, hfmt, hm, hz, hu⟩ => ⟨hop, hfmt, hm, hz, hu⟩⟩

/-- The codes of a row name its operation (R62). -/
theorem Fields.InRow.stemOf_eq (h : f.InRow stem F) : stemOf f.op f.m = some stem := by
  rw [h.op, h.m, stemOf_code]

/-- The format code of a row names its format (R63). -/
theorem Fields.InRow.formatOf_eq (h : f.InRow stem F) : formatOf f.fmt = some F := by
  rw [h.fmt, formatOf_code]

/-- A row is found from its codes, so fields are in at most one row (R62, R63). -/
theorem Fields.InRow.unique (h : f.InRow stem F) (h' : f.InRow stem' F') : stem = stem' ∧ F = F' :=
  ⟨Option.some.inj (h.stemOf_eq.symm.trans h'.stemOf_eq), Option.some.inj (h.formatOf_eq.symm.trans h'.formatOf_eq)⟩

end

/-! ## The mask and the match, field by field -/

/-- The bits two words share, field by field. -/
def Fields.and (f g : Fields) : Fields where
  op := f.op &&& g.op
  fmt := f.fmt &&& g.fmt
  rd := f.rd &&& g.rd
  rs1 := f.rs1 &&& g.rs1
  rs2 := f.rs2 &&& g.rs2
  rs3 := f.rs3 &&& g.rs3
  rs4 := f.rs4 &&& g.rs4
  m := f.m &&& g.m
  zero := f.zero &&& g.zero

/-- The fields of a shape's mask: ones in the fields that do not vary (R61). -/
def Shape.maskFields : Shape → Fields
  | .c2 => ⟨.allOnes 4, .allOnes 4, 0, 0, .allOnes 3, .allOnes 3, .allOnes 3, .allOnes 1, .allOnes 8⟩
  | .c3 => ⟨.allOnes 4, .allOnes 4, 0, 0, 0, .allOnes 3, .allOnes 3, .allOnes 1, .allOnes 8⟩
  | .c4 => ⟨.allOnes 4, .allOnes 4, 0, 0, 0, 0, .allOnes 3, .allOnes 1, .allOnes 8⟩
  | .c5 => ⟨.allOnes 4, .allOnes 4, 0, 0, 0, 0, 0, .allOnes 1, .allOnes 8⟩

theorem wordOf_inj {f g : Fields} : wordOf f = wordOf g ↔ f = g :=
  ⟨fun h => by rw [← fieldsOf_wordOf f, h, fieldsOf_wordOf], congrArg wordOf⟩

theorem wordOf_and (f g : Fields) : wordOf f &&& wordOf g = wordOf (f.and g) := by
  simp only [wordOf, Fields.and, ← BitVec.and_append]

theorem rowMask_eq_wordOf (stem : Stem) : rowMask stem = wordOf stem.shape.maskFields := by
  unfold rowMask
  cases stem.shape <;> rfl

/-- The M bit of shape C5 is the `0x00800000` of the match (R65). -/
theorem rowMatch_eq_wordOf (stem : Stem) (F : Format) :
    rowMatch stem F = wordOf ⟨stem.code, F.code, 0, 0, 0, 0, 0, stem.mBit, 0⟩ := by
  apply BitVec.eq_of_toNat_eq
  have hF : F.code.toNat < 16 := F.code.isLt
  rw [toNat_wordOf, rowMatch, BitVec.toNat_ofNat]
  cases stem <;> simp [Stem.code, Stem.shape, Stem.mBit] <;> omega

/-- R65 on the fields: the mask keeps the fields that do not vary, and the match holds what they must be. -/
theorem and_rowMask_eq_rowMatch_iff (w : CommandWord) (stem : Stem) (F : Format) :
    w &&& rowMask stem = rowMatch stem F ↔ (fieldsOf w).InRow stem F := by
  rw [rowMask_eq_wordOf, rowMatch_eq_wordOf]
  conv_lhs => rw [← wordOf_fieldsOf w]
  rw [wordOf_and, wordOf_inj, Fields.inRow_iff]
  cases stem.shape <;> simp [Fields.and, Shape.maskFields, Shape.unusedZero, -BitVec.reduceAllOnes] <;> tauto

/-! ## The commands of each operation, taken apart -/

section

variable (F : IntFormat) (G : FloatFormat) (rd rs1 rs2 rs3 rs4 : Reg)

@[simp] theorem parts_bitcountInt : (Instr.bitcountInt F rd rs1).parts = ⟨.bitcount, .int F, rd, rs1, 0, 0, 0⟩ := by
  cases F <;> rfl

@[simp] theorem parts_revbitsInt : (Instr.revbitsInt F rd rs1).parts = ⟨.revbits, .int F, rd, rs1, 0, 0, 0⟩ := by
  cases F <;> rfl

@[simp] theorem parts_ispow2Int : (Instr.ispow2Int F rd rs1).parts = ⟨.ispow2, .int F, rd, rs1, 0, 0, 0⟩ := by
  cases F <;> rfl

@[simp] theorem parts_ispow2Float : (Instr.ispow2Float G rd rs1).parts = ⟨.ispow2, .float G, rd, rs1, 0, 0, 0⟩ := by
  cases G <;> rfl

@[simp] theorem parts_log2floorInt : (Instr.log2floorInt F rd rs1).parts = ⟨.log2floor, .int F, rd, rs1, 0, 0, 0⟩ := by
  cases F <;> rfl

@[simp] theorem parts_log2floorFloat :
    (Instr.log2floorFloat G rd rs1).parts = ⟨.log2floor, .float G, rd, rs1, 0, 0, 0⟩ := by
  cases G <;> rfl

@[simp] theorem parts_log2ceilInt : (Instr.log2ceilInt F rd rs1).parts = ⟨.log2ceil, .int F, rd, rs1, 0, 0, 0⟩ := by
  cases F <;> rfl

@[simp] theorem parts_log2ceilFloat :
    (Instr.log2ceilFloat G rd rs1).parts = ⟨.log2ceil, .float G, rd, rs1, 0, 0, 0⟩ := by
  cases G <;> rfl

@[simp] theorem parts_modmulInt :
    (Instr.modmulInt F rd rs1 rs2 rs3).parts = ⟨.modmul, .int F, rd, rs1, rs2, rs3, 0⟩ := by
  cases F <;> rfl

@[simp] theorem parts_modpowInt :
    (Instr.modpowInt F rd rs1 rs2 rs3).parts = ⟨.modpow, .int F, rd, rs1, rs2, rs3, 0⟩ := by
  cases F <;> rfl

@[simp] theorem parts_modpowmInt :
    (Instr.modpowmInt F rd rs1 rs2 rs3 rs4).parts = ⟨.modpowm, .int F, rd, rs1, rs2, rs3, rs4⟩ := by
  cases F <;> rfl

@[simp] theorem parts_modinvInt : (Instr.modinvInt F rd rs1 rs2).parts = ⟨.modinv, .int F, rd, rs1, rs2, 0, 0⟩ := by
  cases F <;> rfl

end

/-- A command is made exactly of the legal pairs of operation and format (R64). -/
theorem exists_instrOf_iff (p : Parts) : (∃ i, instrOf p = some i) ↔ legalPair p.stem p.fmt = true := by
  obtain ⟨stem, F, rd, rs1, rs2, rs3, rs4⟩ := p
  cases F with
  | int I => cases stem <;> simp [instrOf, legalPair]
  | float G => cases stem <;> simp [instrOf, legalPair]

/-- The parts with 0 in the source fields the shape does not use. -/
def Parts.clearUnused (p : Parts) : Parts :=
  match p.stem.shape with
  | .c2 => { p with rs2 := 0, rs3 := 0, rs4 := 0 }
  | .c3 => { p with rs3 := 0, rs4 := 0 }
  | .c4 => { p with rs4 := 0 }
  | .c5 => p

/-- The command of given parts has those parts, but for the source fields it does not use. -/
theorem parts_of_instrOf {p : Parts} {i : Instr} (h : instrOf p = some i) : i.parts = p.clearUnused := by
  obtain ⟨stem, F, rd, rs1, rs2, rs3, rs4⟩ := p
  cases F with
  | int I => cases stem <;> cases h <;> simp [Parts.clearUnused, Stem.shape]
  | float G => cases stem <;> cases h <;> simp [Parts.clearUnused, Stem.shape]

/-! ## What the decoder accepts -/

/-- The parts of a command of `stem` and `F` whose registers stand in the fields. -/
def Fields.partsIn (f : Fields) (stem : Stem) (F : Format) : Parts :=
  ⟨stem, F, f.rd.toFin, f.rs1.toFin, f.rs2.toFin, f.rs3.toFin, f.rs4.toFin⟩

/-- In a row the fields the shape does not use are 0 already. -/
theorem Fields.InRow.clearUnused_partsIn {f : Fields} {stem : Stem} {F : Format} (h : f.InRow stem F) :
    (f.partsIn stem F).clearUnused = f.partsIn stem F := by
  have hu := h.unused
  simp only [Parts.clearUnused, Fields.partsIn]
  cases hs : stem.shape <;> simp only [hs, Shape.unusedZero, Bool.and_eq_true, beq_iff_eq] at hu ⊢ <;> simp [hu]

/-- The decoder accepts the fields of the rows and no others, and answers the row's command. -/
theorem decodeFields_eq_ok_iff {f : Fields} {i : Instr} :
    decodeFields f = .ok i ↔ ∃ stem F, f.InRow stem F ∧ instrOf (f.partsIn stem F) = some i := by
  constructor
  · intro h
    unfold decodeFields at h
    split at h
    · cases h
    · next stem hstem =>
      split at h
      · cases h
      · next F hF =>
        split_ifs at h with hz hm hu
        split at h
        · cases h
        · next j hj =>
          cases h
          exact ⟨stem, F, ⟨(stemOf_some hstem).symm, (formatOf_some hF).symm, not_not.mp hm, not_not.mp hz,
            by simpa using hu⟩, hj⟩
  · rintro ⟨stem, F, hrow, hi⟩
    rw [Fields.partsIn] at hi
    simp only [decodeFields, hrow.stemOf_eq, hrow.formatOf_eq, hi]
    simp [hrow.zero, hrow.m, hrow.unused]

/-- A decoded command is the one of the row its word is in, with the registers of the word's fields (R65). -/
theorem parts_of_decodeFields {f : Fields} {i : Instr} (h : decodeFields f = .ok i) :
    f.InRow i.stem i.format ∧ i.parts = f.partsIn i.stem i.format := by
  obtain ⟨stem, F, hrow, hi⟩ := decodeFields_eq_ok_iff.mp h
  have hparts : i.parts = f.partsIn stem F := (parts_of_instrOf hi).trans hrow.clearUnused_partsIn
  have hstem : i.stem = stem := congrArg Parts.stem hparts
  have hF : i.format = F := congrArg Parts.fmt hparts
  subst hstem hF
  exact ⟨hrow, hparts⟩

/-- The fields are in the row of a legal pair exactly when they decode to a command of that pair (R65). -/
theorem inRow_iff_decodeFields {f : Fields} {stem : Stem} {F : Format} (hlegal : legalPair stem F = true) :
    f.InRow stem F ↔ ∃ i, decodeFields f = .ok i ∧ i.stem = stem ∧ i.format = F := by
  constructor
  · intro hrow
    obtain ⟨i, hi⟩ := (exists_instrOf_iff (f.partsIn stem F)).mpr hlegal
    have hdec : decodeFields f = .ok i := decodeFields_eq_ok_iff.mpr ⟨stem, F, hrow, hi⟩
    obtain ⟨hstem, hF⟩ := (parts_of_decodeFields hdec).1.unique hrow
    exact ⟨i, hdec, hstem, hF⟩
  · rintro ⟨i, hdec, rfl, rfl⟩
    exact (parts_of_decodeFields hdec).1

/-- The decoder rejects exactly the fields that are in no row. -/
theorem decodeFields_error_iff (f : Fields) :
    (∃ r, decodeFields f = .error r) ↔ ∀ stem F, legalPair stem F = true → ¬f.InRow stem F := by
  constructor
  · rintro ⟨r, hr⟩ stem F hlegal hrow
    obtain ⟨i, hi, -⟩ := (inRow_iff_decodeFields hlegal).mp hrow
    simp [hr] at hi
  · intro hno
    cases hdec : decodeFields f with
    | error r => exact ⟨r, rfl⟩
    | ok i =>
      obtain ⟨stem, F, hrow, hi⟩ := decodeFields_eq_ok_iff.mp hdec
      exact absurd hrow (hno stem F ((exists_instrOf_iff (f.partsIn stem F)).mp ⟨i, hi⟩))

/-! ## The six clauses of R66, each against the table it is read from -/

section

variable {f : Fields} {stem : Stem} {F : Format}

/-- The reserved operation codes are those that name no operation (R62). -/
theorem clauseA_eq (f : Fields) : f.clauseA = (stemOf f.op f.m).isNone := by
  simp only [Fields.clauseA]
  generalize f.op = op, f.m = m
  revert op m
  decide

/-- The reserved format codes are those that name no format (R63). -/
theorem clauseB_eq (f : Fields) : f.clauseB = (formatOf f.fmt).isNone := by
  simp only [Fields.clauseB]
  generalize f.fmt = c
  revert c
  decide

/-- Clause (c) excludes the pairs that are not legal (R64). -/
theorem clauseC_eq (hop : f.op = stem.code) (hfmt : f.fmt = F.code) : f.clauseC = !legalPair stem F := by
  simp only [Fields.clauseC, hop, hfmt]
  cases F with
  | int I => cases I <;> simp [Format.code, legalPair]
  | float G => cases G <;> cases stem <;> rfl

/-- Clause (e) excludes the M bits that are not the operation's own (R61). -/
theorem clauseE_eq (h : stemOf f.op f.m = some stem) : f.clauseE = (f.m != stem.mBit) := by
  have hop := stemOf_some h
  simp only [Fields.clauseE, ← hop] at h ⊢
  generalize f.m = m at h ⊢
  cases stem <;> revert m <;> decide

/-- Clause (f) excludes the words with an unused source field that is not 0 (R61). -/
theorem clauseF_eq (hop : f.op = stem.code) (hm : f.m = stem.mBit) :
    f.clauseF = !stem.shape.unusedZero f := by
  cases stem <;>
    simp [Fields.clauseF, hop, hm, Stem.code, Stem.mBit, Stem.shape, Shape.unusedZero, bne, Bool.or_assoc]

end

/-- No clause of R66 holds exactly of the fields of the rows: each clause rules out what one table does. -/
theorem illegal_eq_false_iff (f : Fields) :
    f.illegal = false ↔ ∃ stem F, legalPair stem F = true ∧ f.InRow stem F := by
  simp only [Fields.illegal, Bool.or_eq_false_iff, and_assoc]
  constructor
  · rintro ⟨ha, hb, hc, hd, he, hf⟩
    rw [clauseA_eq, Option.isNone_eq_false_iff, Option.isSome_iff_exists] at ha
    rw [clauseB_eq, Option.isNone_eq_false_iff, Option.isSome_iff_exists] at hb
    obtain ⟨stem, hstem⟩ := ha
    obtain ⟨F, hF⟩ := hb
    have hop := (stemOf_some hstem).symm
    have hfmt := (formatOf_some hF).symm
    have hm : f.m = stem.mBit := by simpa [clauseE_eq hstem] using he
    exact ⟨stem, F, by simpa [clauseC_eq hop hfmt] using hc,
      ⟨hop, hfmt, hm, by simpa [Fields.clauseD] using hd, by simpa [clauseF_eq hop hm] using hf⟩⟩
  · rintro ⟨stem, F, hlegal, hrow⟩
    refine ⟨?clauseA, ?clauseB, ?clauseC, ?clauseD, ?clauseE, ?clauseF⟩
    case clauseA => simp [clauseA_eq, hrow.stemOf_eq]
    case clauseB => simp [clauseB_eq, hrow.formatOf_eq]
    case clauseC => simp [clauseC_eq hrow.op hrow.fmt, hlegal]
    case clauseD => simp [Fields.clauseD, hrow.zero]
    case clauseE => simp [clauseE_eq hrow.stemOf_eq, hrow.m]
    case clauseF => simp [clauseF_eq hrow.op hrow.m, hrow.unused]

/-- R66: the illegal fields are those in no row. -/
theorem illegal_iff (f : Fields) :
    f.illegal = true ↔ ∀ stem F, legalPair stem F = true → ¬f.InRow stem F := by
  rw [← Bool.not_eq_false, illegal_eq_false_iff]
  simp only [not_exists, not_and]

/-! ## What Issue of an illegal word leaves -/

open Sys2Proof.Machine Sys2Proof.Safety

/-- Raising an error changes CODE and the response alone (R203). -/
theorem onlyCode_raiseError (s : State) (c : Code) : OnlyCode c s (s.raiseError c) := by
  refine ⟨⟨rfl, rfl⟩, ⟨rfl, rfl⟩, code_complete s c, halted_complete s c, ?_, rfl⟩
  intro k hk _
  simp [getLsbD_setCodeField, show ¬k < 4 by omega]

/-! ## The statements -/

/-- Settles O4: by the mask, a word matches a row when its fields are in the row; the decoder accepts the fields of the
rows and no others. -/
theorem wordIsTheCommandOfTheRowItMatches : Obligations.WordIsTheCommandOfTheRowItMatches := by
  refine ⟨?command, ?unique, ?none, ?registers⟩
  case command =>
    intro w stem F hlegal
    exact (and_rowMask_eq_rowMatch_iff w stem F).trans (inRow_iff_decodeFields hlegal)
  case unique =>
    intro w stem stem' F F' _ _ h h'
    exact ((and_rowMask_eq_rowMatch_iff w stem F).mp h).unique ((and_rowMask_eq_rowMatch_iff w stem' F').mp h')
  case none =>
    intro w hno
    refine (decodeFields_error_iff (fieldsOf w)).mpr fun stem F hlegal hrow => ?_
    exact hno stem F hlegal ((and_rowMask_eq_rowMatch_iff w stem F).mpr hrow)
  case registers =>
    intro w i hdec
    rw [(parts_of_decodeFields hdec).2]
    exact ⟨rfl, rfl, rfl, rfl, rfl⟩

/-- Settles O3: the words the decoder rejects, the words of the six clauses and the words that match no row are all those
whose fields are in no row. -/
theorem illegalWordsAreThoseOfTheSixClauses : Obligations.IllegalWordsAreThoseOfTheSixClauses := by
  have hdecode : ∀ w : CommandWord, (∃ r, decode w = .error r) ↔ (fieldsOf w).illegal = true := fun w =>
    (decodeFields_error_iff (fieldsOf w)).trans (illegal_iff (fieldsOf w)).symm
  refine ⟨hdecode, ?rows, ?issue, by decide, by decide⟩
  case rows =>
    intro w
    simp only [illegal_iff, ne_eq, and_rowMask_eq_rowMatch_iff]
  case issue =>
    intro w s hill hready
    obtain ⟨r, hr⟩ := (hdecode w).mpr hill
    exact ⟨s.raiseError .eIllegal, issue_illegal s hready hr, onlyCode_raiseError s .eIllegal⟩

end Sys2Proof

/-! # Proofs: the popcount tree and the swap network (R100 to R105) -/

namespace Sys2Proof.Machine

/-! ## The stages of the cascade, from `N = 1` up -/

/-- The first `k` stages of the cascade: `N = 1, 2, ..., 2^(k-1)` (R100). -/
def firstStages (k : Nat) : List Nat :=
  (List.range k).map fun j => 2 ^ j

theorem stages_eq_firstStages (W : Nat) : stages W = firstStages W.log2 := rfl

theorem foldl_firstStages_succ {α : Type} (f : α → Nat → α) (x : α) (k : Nat) :
    (firstStages (k + 1)).foldl f x = f ((firstStages k).foldl f x) (2 ^ k) := by
  simp [firstStages, List.range_succ]

/-- The width of every integer format is a power of two (R6). -/
theorem IntFormat.two_pow_log2_width (F : IntFormat) : 2 ^ F.width.log2 = F.width := by
  cases F <;> decide

/-! ## The number of 1 bits of a group -/

theorem popcount_le {W : Nat} (p : BitVec W) : popcount p ≤ W :=
  List.countP_le_length.trans_eq List.length_range

/-- The 1 bits of a group are those that stand in the group's place. -/
theorem popcount_extractLsb' {W : Nat} (x : BitVec W) (a n : Nat) :
    popcount (x.extractLsb' a n) = (List.range n).countP fun i => x.getLsbD (a + i) := by
  refine List.countP_congr fun i hi => ?_
  simp [List.mem_range.mp hi]

/-- The 1 bits of two adjacent groups are those of both. -/
theorem popcount_extractLsb'_add {W : Nat} (x : BitVec W) (a m n : Nat) :
    popcount (x.extractLsb' a (m + n)) = popcount (x.extractLsb' a m) + popcount (x.extractLsb' (a + m) n) := by
  simp only [popcount_extractLsb', List.range_add, List.countP_append, List.countP_map]
  simp [Function.comp_def, Nat.add_assoc]

/-- A single bit is its own popcount: the groups the tree starts from. -/
theorem toNat_eq_popcount_one (p : BitVec 1) : p.toNat = popcount p := by
  revert p
  decide

/-! ## One stage of the popcount tree adds group sums without a carry between groups -/

theorem mod_two_pow_lt_of_getLsbD {W k : Nat} {a : BitVec W} (h : a.getLsbD k = false) :
    a.toNat % 2 ^ (k + 1) < 2 ^ k := by
  refine Nat.lt_pow_two_of_testBit _ fun i hi => ?_
  rcases Nat.eq_or_lt_of_le hi with rfl | hlt
  · simp [BitVec.testBit_toNat, h]
  · simp [show ¬i < k + 1 by omega]

/-- Where no carry enters a group, the group of a sum is the sum of the groups. -/
theorem extractLsb'_add_of_no_carry {W s n : Nat} {a b : BitVec W} (hW : s + n ≤ W)
    (hc : a.toNat % 2 ^ s + b.toNat % 2 ^ s < 2 ^ s) :
    (a + b).extractLsb' s n = a.extractLsb' s n + b.extractLsb' s n := by
  apply BitVec.eq_of_toNat_eq
  have hdvd : 2 ^ n ∣ 2 ^ (W - s) := Nat.pow_dvd_pow 2 (by omega)
  have hsplit : 2 ^ W = 2 ^ s * 2 ^ (W - s) := by rw [← Nat.pow_add, Nat.add_sub_cancel' (by omega)]
  simp only [BitVec.toNat_add, BitVec.extractLsb'_toNat, Nat.shiftRight_eq_div_pow]
  rw [hsplit, Nat.mod_mul_right_div_self, Nat.mod_mod_of_dvd _ hdvd, Nat.add_div_eq_of_add_mod_lt hc, Nat.add_mod]

/-- A masked pattern has a 0 at the top of every group, below the next one. -/
theorem and_mask_mod_lt {W : Nat} (a : BitVec W) {N : Nat} (hN : 0 < N) (g : Nat) :
    2 * ((a &&& mask W N).toNat % 2 ^ (2 * N * (g + 1))) < 2 ^ (2 * N * (g + 1)) := by
  obtain ⟨k, hk⟩ : ∃ k, 2 * N * (g + 1) = k + 1 := Nat.exists_eq_succ_of_ne_zero (by positivity)
  have hmod : k % (2 * N) = 2 * N - 1 := by
    rw [show k = 2 * N * g + (2 * N - 1) by rw [Nat.mul_succ] at hk; omega, Nat.mul_add_mod,
      Nat.mod_eq_of_lt (by omega)]
  have htop : (a &&& mask W N).getLsbD k = false := by
    simp [getLsbD_mask, hmod, show ¬2 * N - 1 < N by omega]
  have := mod_two_pow_lt_of_getLsbD htop
  rw [hk]
  omega

/-- The mask keeps the low half of a group. -/
theorem extractLsb'_and_mask {W : Nat} (a : BitVec W) {N g : Nat} (hW : 2 * N * (g + 1) ≤ W) :
    (a &&& mask W N).extractLsb' (2 * N * g) (2 * N) = (a.extractLsb' (2 * N * g) N).setWidth (2 * N) := by
  rw [Nat.mul_succ] at hW
  apply BitVec.eq_of_getLsbD_eq
  intro i hi
  have hin : 2 * N * g + i < W := by omega
  rw [BitVec.getLsbD_setWidth, BitVec.getLsbD_extractLsb', BitVec.getLsbD_extractLsb', BitVec.getLsbD_and, getLsbD_mask,
    Nat.mul_add_mod, Nat.mod_eq_of_lt hi]
  simp only [hi, hin, decide_true, Bool.true_and, Bool.and_comm]

/-- One level of the popcount tree: a `2N`-bit group of the result is the sum of the two `N`-bit groups it covers
(R102). -/
theorem extractLsb'_popStage {W : Nat} (x : BitVec W) {N g : Nat} (hN : 0 < N) (hW : 2 * N * (g + 1) ≤ W) :
    (popStage x N).extractLsb' (2 * N * g) (2 * N) =
      (x.extractLsb' (2 * N * g) N).setWidth (2 * N) + (x.extractLsb' (2 * N * g + N) N).setWidth (2 * N) := by
  have hcarry : (x &&& mask W N).toNat % 2 ^ (2 * N * g) + ((x >>> N) &&& mask W N).toNat % 2 ^ (2 * N * g) <
      2 ^ (2 * N * g) := by
    cases g with
    | zero => simp [Nat.mod_one]
    | succ g =>
      have hlow := and_mask_mod_lt x hN g
      have hhigh := and_mask_mod_lt (x >>> N) hN g
      omega
  have hshift : (x >>> N).extractLsb' (2 * N * g) N = x.extractLsb' (2 * N * g + N) N := by
    apply BitVec.eq_of_getLsbD_eq
    intro i hi
    simp [hi, show N + (2 * N * g + i) = 2 * N * g + N + i by omega]
  rw [popStage, extractLsb'_add_of_no_carry (by rw [← Nat.mul_succ]; exact hW) hcarry, extractLsb'_and_mask x hW,
    extractLsb'_and_mask (x >>> N) hW, hshift]

/-! ## The popcount tree counts the 1 bits -/

/-- After `k` levels every `2^k`-bit group holds the number of 1 bits the operand has there (R102). -/
theorem toNat_group_popStages {W : Nat} (x : BitVec W) (k : Nat) : ∀ g, 2 ^ k * (g + 1) ≤ W →
    (((firstStages k).foldl popStage x).extractLsb' (2 ^ k * g) (2 ^ k)).toNat =
      popcount (x.extractLsb' (2 ^ k * g) (2 ^ k)) := by
  induction k with
  | zero => exact fun g _ => toNat_eq_popcount_one _
  | succ k ih =>
    intro g hW
    have hpow : 2 ^ (k + 1) = 2 * 2 ^ k := Nat.pow_succ'
    rw [foldl_firstStages_succ]
    rw [hpow] at hW ⊢
    generalize hN : 2 ^ k = N at ih hW ⊢
    have hN0 : 0 < N := hN ▸ Nat.two_pow_pos k
    have hlowPlace : 2 * N * g = N * (2 * g) := by ring
    have hhighPlace : 2 * N * g + N = N * (2 * g + 1) := by ring
    have hfits : N * (2 * g + 1 + 1) ≤ W := by rwa [show N * (2 * g + 1 + 1) = 2 * N * (g + 1) by ring]
    have hlow := ih (2 * g) (by rw [Nat.mul_succ] at hfits; omega)
    have hhigh := ih (2 * g + 1) hfits
    rw [← hlowPlace] at hlow
    rw [← hhighPlace] at hhigh
    have hsum : popcount (x.extractLsb' (2 * N * g) (2 * N)) =
        popcount (x.extractLsb' (2 * N * g) N) + popcount (x.extractLsb' (2 * N * g + N) N) := by
      rw [Nat.two_mul, popcount_extractLsb'_add]
    have hlt : popcount (x.extractLsb' (2 * N * g) (2 * N)) < 2 ^ (2 * N) :=
      lt_of_le_of_lt (popcount_le _) Nat.lt_two_pow_self
    rw [extractLsb'_popStage _ hN0 hW, BitVec.toNat_add, BitVec.toNat_setWidth, BitVec.toNat_setWidth, hlow, hhigh,
      ← Nat.add_mod, ← hsum, Nat.mod_eq_of_lt hlt]

/-- R102: at a width that is a power of two the popcount tree is the number of 1 bits. -/
theorem toNat_popTree {W : Nat} (hW : 2 ^ W.log2 = W) (x : BitVec W) : (popTree x).toNat = popcount x := by
  have h := toNat_group_popStages x W.log2 0 (by omega)
  rw [hW, Nat.mul_zero, BitVec.extractLsb'_eq_self, BitVec.extractLsb'_eq_self] at h
  exact h

/-- BITCOUNT ends OK with the number of 1 bits of the pattern, from every state (R102). -/
theorem exec_bitcountInt (F : IntFormat) (rd rs1 : Reg) (s : State) :
    exec (.bitcountInt F rd rs1) s =
      .next (s.finishOk rd (BitVec.ofNat 128 (popcount (pat F.width (s.operand rs1))))) := by
  have hexec : exec (.bitcountInt F rd rs1) s =
      .next (s.finishOk rd (patternResult (popTree (pat F.width (s.operand rs1))))) := by cases F <;> rfl
  rw [hexec, ← toNat_popTree (IntFormat.two_pow_log2_width F), patternResult, BitVec.ofNat_toNat]

/-! ## The patterns of R103 -/

theorem popcount_allOnes (W : Nat) : popcount (BitVec.allOnes W) = W := by
  rw [popcount, List.countP_eq_length.mpr, List.length_range]
  intro i hi
  simpa using hi

theorem popcount_zero (W : Nat) : popcount (0 : BitVec W) = 0 := by
  simp [popcount]

theorem popcount_twoPow {W k : Nat} (hk : k < W) : popcount (BitVec.twoPow W k) = 1 := by
  have hbit : popcount (BitVec.twoPow W k) = (List.range W).count k := by
    refine List.countP_congr fun i _ => ?_
    simpa [hk] using eq_comm
  rw [hbit, List.count_eq_one_of_mem List.nodup_range (List.mem_range.mpr hk)]

/-- Settles O31: BITCOUNT is the number of 1 bits of the pattern, which is counted for the three kinds of pattern; the
count sees the format's width alone. -/
theorem bitcountOfAllOnesZeroAndSingleBits : Obligations.BitcountOfAllOnesZeroAndSingleBits := by
  intro F rd rs1 s
  simp only [exec_bitcountInt]
  refine ⟨?allOnes, ?zero, ?single, ?sameWidth⟩
  case allOnes =>
    intro h
    rw [h, popcount_allOnes]
  case zero =>
    intro h
    rw [h, popcount_zero]
    rfl
  case single =>
    intro k hk h
    rw [h, popcount_twoPow hk]
    rfl
  case sameWidth =>
    intro G hG
    rw [hG]

/-! ## The swap network reverses the bit order -/

/-- After `k` levels the bits of every `2^k`-bit group stand in reverse order within the group (R104). -/
theorem getLsbD_revStages {W : Nat} (x : BitVec W) (k : Nat) : ∀ g r, r < 2 ^ k → 2 ^ k * (g + 1) ≤ W →
    ((firstStages k).foldl revStage x).getLsbD (2 ^ k * g + r) = x.getLsbD (2 ^ k * g + (2 ^ k - 1 - r)) := by
  induction k with
  | zero =>
    intro g r hr _
    obtain rfl : r = 0 := by omega
    rfl
  | succ k ih =>
    intro g r hr hW
    have hpow : 2 ^ (k + 1) = 2 * 2 ^ k := Nat.pow_succ'
    rw [foldl_firstStages_succ]
    rw [hpow] at hr hW ⊢
    generalize hN : 2 ^ k = N at ih hr hW ⊢
    have hN0 : 0 < N := hN ▸ Nat.two_pow_pos k
    have hlowPlace : N * (2 * g) = 2 * N * g := by ring
    have hhighPlace : N * (2 * g + 1) = 2 * N * g + N := by ring
    have hfits : N * (2 * g + 1 + 1) ≤ W := by rwa [show N * (2 * g + 1 + 1) = 2 * N * (g + 1) by ring]
    have hmod : (2 * N * g + r) % (2 * N) = r := by rw [Nat.mul_add_mod, Nat.mod_eq_of_lt hr]
    rw [Nat.mul_succ] at hW
    rw [getLsbD_revStage _ N _ hN0 (by omega), hmod]
    by_cases hlow : r < N
    · have h := ih (2 * g + 1) r hlow hfits
      rw [hhighPlace] at h
      rw [if_pos hlow, show 2 * N * g + r + N = 2 * N * g + N + r by omega, h]
      congr 1
      omega
    · have h := ih (2 * g) (r - N) (by omega) (by rw [Nat.mul_succ] at hfits; omega)
      rw [hlowPlace] at h
      rw [if_neg hlow, show 2 * N * g + r - N = 2 * N * g + (r - N) by omega, h]
      congr 1
      omega

/-- R104: at a width that is a power of two the swap network reverses the bit order end to end. -/
theorem revNetwork_eq_reverse {W : Nat} (hW : 2 ^ W.log2 = W) (x : BitVec W) : revNetwork x = x.reverse := by
  apply BitVec.eq_of_getLsbD_eq
  intro i hi
  have h := getLsbD_revStages x W.log2 0 i (by omega) (by omega)
  rw [hW, Nat.mul_zero, Nat.zero_add, Nat.zero_add] at h
  rw [BitVec.getLsbD_reverse, BitVec.getMsbD_eq_getLsbD, decide_eq_true hi, Bool.true_and]
  exact h

/-- REVBITS ends OK with the pattern in reverse bit order, from every state (R104). -/
theorem exec_revbitsInt (F : IntFormat) (rd rs1 : Reg) (s : State) :
    exec (.revbitsInt F rd rs1) s =
      .next (s.finishOk rd (patternResult (pat F.width (s.operand rs1)).reverse)) := by
  have hexec : exec (.revbitsInt F rd rs1) s =
      .next (s.finishOk rd (patternResult (revNetwork (pat F.width (s.operand rs1))))) := by cases F <;> rfl
  rw [hexec, revNetwork_eq_reverse (IntFormat.two_pow_log2_width F)]

/-- A command that reads the RD of a REVBITS reads the reversed pattern (R53, R104). -/
theorem operand_of_exec_revbitsInt {F : IntFormat} {rd rs1 : Reg} {s t : State}
    (h : exec (.revbitsInt F rd rs1) s = .next t) :
    t.operand rd = patternResult (pat F.width (s.operand rs1)).reverse := by
  rw [exec_revbitsInt] at h
  cases h
  simp

/-! ## Two reversals, of one width and of two (R105) -/

/-- A pattern result of a format's width is read back in that width (R24 (a)). -/
theorem pat_patternResult {W : Nat} (hW : W ≤ 128) (p : BitVec W) : pat W (patternResult p) = p := by
  rw [pat, patternResult, BitVec.setWidth_setWidth_of_le p hW, BitVec.setWidth_eq]

theorem reverse_twoPow {W k : Nat} (hk : k < W) : (BitVec.twoPow W k).reverse = BitVec.twoPow W (W - 1 - k) := by
  apply BitVec.eq_of_getLsbD_eq
  intro i hi
  rw [BitVec.getLsbD_reverse, BitVec.getMsbD_eq_getLsbD, BitVec.getLsbD_twoPow, BitVec.getLsbD_twoPow]
  simp [hi, hk, show W - 1 - k < W by omega]
  omega

theorem reverse_zero (W : Nat) : (0 : BitVec W).reverse = 0 := by
  apply BitVec.eq_of_getLsbD_eq
  intro i _
  simp [BitVec.getLsbD_reverse]

theorem patternResult_twoPow {W k : Nat} (hk : k < W) : patternResult (BitVec.twoPow W k) = BitVec.twoPow 128 k := by
  apply BitVec.eq_of_getLsbD_eq
  intro i hi
  simpa [patternResult, hi, hk] using eq_comm

/-- A single bit is seen at a width that reaches its place, and no bit at one that does not. -/
theorem pat_twoPow {W k : Nat} (hk : k < 128) :
    pat W (BitVec.twoPow 128 k) = if k < W then BitVec.twoPow W k else 0 := by
  apply BitVec.eq_of_getLsbD_eq
  intro i hi
  split
  · next h => simpa [pat, hi, hk] using eq_comm
  · next h => simp [pat, hi, hk, show k ≠ i by omega]

/-- The pattern 1 reversed at width `a` and then at width `b`: the bit goes to the top of `a` bits, and `b` bits see it
when `b` is the greater width (R105). -/
theorem reverse_pat_reverse_one {a b : Nat} (ha : 0 < a) (ha128 : a ≤ 128) (hab : b ≠ a) :
    patternResult (pat b (patternResult (1 : BitVec a).reverse)).reverse =
      if a < b then BitVec.twoPow 128 (b - a) else 0 := by
  have htop : patternResult (1 : BitVec a).reverse = BitVec.twoPow 128 (a - 1) := by
    rw [show (1 : BitVec a) = BitVec.twoPow a 0 from BitVec.twoPow_zero.symm, reverse_twoPow ha,
      patternResult_twoPow (by omega), Nat.sub_zero]
  rw [htop, pat_twoPow (by omega)]
  by_cases h : a < b
  · rw [if_pos h, if_pos (by omega), reverse_twoPow (by omega), patternResult_twoPow (by omega),
      show b - 1 - (a - 1) = b - a by omega]
  · rw [if_neg h, if_neg (by omega), reverse_zero, patternResult]
    exact BitVec.setWidth_zero 128 b

/-- A register with bit 0 clear does not hold the pattern 1 at any width. -/
theorem pat_ne_one {W : Nat} (hW : 0 < W) {v : Word} (hv : v.getLsbD 0 = false) : pat W v ≠ 1 := by
  intro h
  have hbit := congrArg (fun p => p.getLsbD 0) h
  simp only [pat, BitVec.getLsbD_setWidth, hv, BitVec.ofNat_eq_ofNat, BitVec.getLsbD_one, hW] at hbit
  simp at hbit

/-- Settles O33: REVBITS is the reversal of the pattern, which is its own inverse at one width and moves the single bit of
the pattern 1 to another place, or out of sight, at two. -/
theorem revbitsTwiceRestoresThePattern : Obligations.RevbitsTwiceRestoresThePattern := by
  refine ⟨?sameWidth, ?otherWidth⟩
  case sameWidth =>
    intro F G rd rd' rs1 s t hG hrev
    rw [exec_revbitsInt, operand_of_exec_revbitsInt hrev, hG, pat_patternResult (IntFormat.width_le F),
      BitVec.reverse_reverse_eq]
  case otherWidth =>
    intro F G rd rd' rs1 s t hG hone hrev
    have hFpos := IntFormat.width_pos F
    have hvalue := reverse_pat_reverse_one hFpos (IntFormat.width_le F) hG
    have hlow : (if F.width < G.width then BitVec.twoPow 128 (G.width - F.width) else 0).getLsbD 0 = false := by
      split
      · next h => rw [BitVec.getLsbD_twoPow, decide_eq_false (by omega : ¬G.width - F.width = 0), Bool.and_false]
      · rfl
    refine ⟨_, ?_, rfl, pat_ne_one hFpos hlow, pat_ne_one (IntFormat.width_pos G) hlow⟩
    rw [exec_revbitsInt, operand_of_exec_revbitsInt hrev, hone, hvalue]

end Sys2Proof.Machine

/-! # Proofs: the single-bit test (R123) -/

namespace Sys2Proof.Machine

/-! ## The test on a number -/

/-- The test as R123 words it. -/
theorem onebit_iff (n : Nat) : onebit n = true ↔ 0 < n ∧ n &&& (n - 1) = 0 := by
  unfold onebit
  split
  · next h => simp [h]
  · next h => simp [Nat.pos_of_ne_zero h]

/-- Taking 1 from a number that is not a power of two leaves its highest 1 bit in place. -/
theorem testBit_log2_sub_one {n : Nat} (hn : n ≠ 0) (hpow : n ≠ 2 ^ n.log2) : (n - 1).testBit n.log2 = true := by
  have hlow := Nat.log2_self_le hn
  have hhigh := Nat.lt_log2_self (n := n)
  exact Nat.testBit_of_two_pow_le_and_two_pow_add_one_gt (by omega) (by omega)

/-- A number that shares no 1 bit with its predecessor is the power of two at its highest 1 bit. -/
theorem eq_two_pow_log2_of_and_sub_one {n : Nat} (hn : n ≠ 0) (hand : n &&& (n - 1) = 0) : n = 2 ^ n.log2 := by
  by_contra hpow
  have hbit : (n &&& (n - 1)).testBit n.log2 = true := by
    rw [Nat.testBit_and, Nat.testBit_log2 hn, testBit_log2_sub_one hn hpow, Bool.and_self]
  rw [hand, Nat.zero_testBit] at hbit
  contradiction

theorem two_pow_and_sub_one (k : Nat) : 2 ^ k &&& (2 ^ k - 1) = 0 := by
  rw [Nat.and_two_pow_sub_one_eq_mod, Nat.mod_self]

/-- The test is true of the powers of two alone. -/
theorem onebit_iff_exists_two_pow (n : Nat) : onebit n = true ↔ ∃ k : Nat, n = 2 ^ k := by
  rw [onebit_iff]
  constructor
  · rintro ⟨hpos, hand⟩
    exact ⟨n.log2, eq_two_pow_log2_of_and_sub_one hpos.ne' hand⟩
  · rintro ⟨k, rfl⟩
    exact ⟨Nat.two_pow_pos k, two_pow_and_sub_one k⟩

/-! ## The test on a pattern -/

/-- A pattern's number is a power of two when the pattern is a single bit in one of its places. -/
theorem exists_toNat_eq_two_pow_iff {W : Nat} (x : BitVec W) :
    (∃ k : Nat, x.toNat = 2 ^ k) ↔ ∃ k < W, x = BitVec.twoPow W k := by
  constructor
  · rintro ⟨k, hx⟩
    have hk : k < W := (Nat.pow_lt_pow_iff_right Nat.one_lt_two).mp (hx ▸ x.isLt)
    exact ⟨k, hk, BitVec.eq_of_toNat_eq (hx.trans (BitVec.toNat_twoPow_of_lt hk).symm)⟩
  · rintro ⟨k, hk, rfl⟩
    exact ⟨k, BitVec.toNat_twoPow_of_lt hk⟩

/-- A pattern with one 1 bit is the single bit at that place. -/
theorem exists_eq_twoPow_of_popcount_eq_one {W : Nat} {x : BitVec W} (h : popcount x = 1) :
    ∃ k < W, x = BitVec.twoPow W k := by
  rw [popcount, List.countP_eq_length_filter, List.length_eq_one_iff] at h
  obtain ⟨k, hplaces⟩ := h
  have hbit (i : Nat) : (i < W ∧ x.getLsbD i = true) ↔ i = k := by
    rw [← List.mem_singleton (b := k), ← hplaces, List.mem_filter, List.mem_range]
  have hk : k < W := ((hbit k).mpr rfl).1
  refine ⟨k, hk, BitVec.eq_of_getLsbD_eq fun i hi => ?_⟩
  rw [Bool.eq_iff_iff]
  simpa [hi, hk, eq_comm (a := k)] using hbit i

theorem popcount_eq_one_iff {W : Nat} (x : BitVec W) : popcount x = 1 ↔ ∃ k < W, x = BitVec.twoPow W k := by
  refine ⟨exists_eq_twoPow_of_popcount_eq_one, ?_⟩
  rintro ⟨k, hk, rfl⟩
  exact popcount_twoPow hk

/-- Settles O26: the highest 1 bit of a number outlives the subtraction of 1 unless the number is a power of two, and the
patterns of those numbers are the single bits. -/
theorem onebitIsTheSingleBitTest : Obligations.OnebitIsTheSingleBitTest := by
  refine ⟨onebit_iff, onebit_iff_exists_two_pow, ?onePattern, rfl⟩
  case onePattern =>
    intro W x
    rw [onebit_iff_exists_two_pow, exists_toNat_eq_two_pow_iff, popcount_eq_one_iff]

end Sys2Proof.Machine

/-! # Proofs: the integer logarithms (R142, R143, R144, R146, R147, R148) -/

namespace Sys2Proof.Machine

/-! ## The length of a number in binary (R13) -/

@[simp] theorem bitlen_zero : bitlen 0 = 0 := rfl

/-- The length is the least exponent whose power of two exceeds the number; every fact below is read off this. -/
theorem bitlen_le_iff (n k : Nat) : bitlen n ≤ k ↔ n < 2 ^ k := by
  unfold bitlen
  split
  · next h => simp [h]
  · next h => rw [Nat.add_one_le_iff, Nat.log2_lt h]

theorem lt_bitlen_iff (n k : Nat) : k < bitlen n ↔ 2 ^ k ≤ n := by
  rw [← not_le, bitlen_le_iff, not_lt]

theorem bitlen_pos {n : Nat} (hn : 0 < n) : 0 < bitlen n :=
  (lt_bitlen_iff n 0).mpr hn

/-- Dropping the low `k` bits makes a number `k` bits shorter. -/
theorem bitlen_div_two_pow (n k : Nat) : bitlen (n / 2 ^ k) = bitlen n - k := by
  refine eq_of_forall_ge_iff fun j => ?_
  rw [bitlen_le_iff, Nat.div_lt_iff_lt_mul (Nat.two_pow_pos k), ← pow_add, ← bitlen_le_iff, Nat.sub_le_iff_le_add]

/-! ## The two logarithms of a number and its powers of two (R142, R148) -/

section

variable {n : Nat}

theorem le_ilog2floor_iff (hn : 0 < n) (k : Nat) : k ≤ ilog2floor n ↔ 2 ^ k ≤ n := by
  rw [ilog2floor, Nat.le_sub_one_iff_lt (bitlen_pos hn), lt_bitlen_iff]

theorem ilog2ceil_of_one_lt (hn : 1 < n) : ilog2ceil n = bitlen (n - 1) :=
  if_neg hn.ne'

theorem ilog2ceil_le_iff (hn : 0 < n) (k : Nat) : ilog2ceil n ≤ k ↔ n ≤ 2 ^ k := by
  obtain rfl | hone := Nat.eq_or_lt_of_le (Nat.succ_le_of_lt hn)
  · simp [ilog2ceil, Nat.one_le_two_pow]
  · rw [ilog2ceil_of_one_lt hone, bitlen_le_iff]
    omega

theorem two_pow_ilog2floor_le (hn : 0 < n) : 2 ^ ilog2floor n ≤ n :=
  (le_ilog2floor_iff hn _).mp le_rfl

theorem lt_two_pow_ilog2floor_add_one (hn : 0 < n) : n < 2 ^ (ilog2floor n + 1) :=
  not_le.mp fun h => Nat.not_succ_le_self _ ((le_ilog2floor_iff hn _).mpr h)

theorem le_two_pow_ilog2ceil (hn : 0 < n) : n ≤ 2 ^ ilog2ceil n :=
  (ilog2ceil_le_iff hn _).mp le_rfl

theorem ilog2ceil_pos (hn : 1 < n) : 0 < ilog2ceil n :=
  not_le.mp fun h => not_le.mpr hn ((ilog2ceil_le_iff (Nat.zero_lt_of_lt hn) 0).mp h)

theorem two_pow_ilog2ceil_sub_one_lt (hn : 1 < n) : 2 ^ (ilog2ceil n - 1) < n := by
  have hpos := ilog2ceil_pos hn
  rw [← not_le, ← ilog2ceil_le_iff (Nat.zero_lt_of_lt hn)]
  omega

theorem ilog2floor_two_pow (k : Nat) : ilog2floor (2 ^ k) = k := by
  refine eq_of_forall_le_iff fun j => ?_
  rw [le_ilog2floor_iff (Nat.two_pow_pos k), Nat.pow_le_pow_iff_right Nat.one_lt_two]

theorem ilog2ceil_two_pow (k : Nat) : ilog2ceil (2 ^ k) = k := by
  refine eq_of_forall_ge_iff fun j => ?_
  rw [ilog2ceil_le_iff (Nat.two_pow_pos k), Nat.pow_le_pow_iff_right Nat.one_lt_two]

/-- A number strictly between two powers of two has them for its floor and its ceiling. -/
theorem ilog2ceil_of_not_two_pow (hn : 0 < n) (h : ¬∃ k : Nat, n = 2 ^ k) : ilog2ceil n = ilog2floor n + 1 := by
  refine le_antisymm ?_ (Nat.succ_le_of_lt (not_le.mp ?_))
  · exact (ilog2ceil_le_iff hn _).mpr (lt_two_pow_ilog2floor_add_one hn).le
  · intro hle
    exact h ⟨ilog2floor n, le_antisymm ((ilog2ceil_le_iff hn _).mp hle) (two_pow_ilog2floor_le hn)⟩

/-- R148 for a number. -/
theorem ilog2ceil_eq_ite (hn : 0 < n) : ilog2ceil n = if onebit n then ilog2floor n else ilog2floor n + 1 := by
  split
  · next h =>
    obtain ⟨k, rfl⟩ := (onebit_iff_exists_two_pow n).mp h
    rw [ilog2ceil_two_pow, ilog2floor_two_pow]
  · next h => exact ilog2ceil_of_not_two_pow hn (mt (onebit_iff_exists_two_pow n).mpr h)

theorem ilog2floor_eq_ilog2ceil_iff (hn : 0 < n) : ilog2floor n = ilog2ceil n ↔ ∃ k : Nat, n = 2 ^ k := by
  rw [ilog2ceil_eq_ite hn, ← onebit_iff_exists_two_pow]
  split <;> simp [*]

end

/-- Settles O28: `k` is at most the floor when `2^k <= n` and at least the ceiling when `n <= 2^k`; the brackets are these
two equivalences at the logarithms themselves. -/
theorem integerLogarithmsBracketTheirArgument : Obligations.IntegerLogarithmsBracketTheirArgument := by
  refine ⟨?floor, rfl, ?ceil⟩
  case floor =>
    intro n hn
    exact ⟨rfl, two_pow_ilog2floor_le hn, lt_two_pow_ilog2floor_add_one hn⟩
  case ceil =>
    intro n hn
    exact ⟨ilog2ceil_of_one_lt hn, two_pow_ilog2ceil_sub_one_lt hn, le_two_pow_ilog2ceil (Nat.zero_lt_of_lt hn)⟩

/-! ## What the leading-zero counter computes, whole and in two halves (R140, R144, R147) -/

/-- The low `k + 1` bits of a pattern are `k + 1` long when bit `k` is 1, and else are its low `k` bits. -/
theorem bitlen_mod_two_pow_succ {W : Nat} (p : BitVec W) (k : Nat) :
    bitlen (p.toNat % 2 ^ (k + 1)) = if p.getLsbD k then k + 1 else bitlen (p.toNat % 2 ^ k) := by
  split
  · next hbit =>
    refine le_antisymm ((bitlen_le_iff _ _).mpr (Nat.mod_lt _ (Nat.two_pow_pos _))) ((lt_bitlen_iff _ _).mpr ?_)
    exact Nat.ge_two_pow_of_testBit (by simp [BitVec.testBit_toNat, hbit])
  · next hbit =>
    have hlt := mod_two_pow_lt_of_getLsbD (Bool.eq_false_of_not_eq_true hbit)
    rw [← Nat.mod_eq_of_lt hlt, Nat.mod_mod_of_dvd _ (Nat.pow_dvd_pow 2 k.le_succ)]

theorem leadingZeros_add_bitlen {W : Nat} (p : BitVec W) (k : Nat) :
    leadingZeros p k + bitlen (p.toNat % 2 ^ k) = k := by
  induction k with
  | zero => simp [leadingZeros, Nat.mod_one]
  | succ k ih =>
    rw [bitlen_mod_two_pow_succ, leadingZeros]
    split <;> omega

/-- The zeros above the highest 1 bit and the bits from it on fill the pattern (R140). -/
theorem clz_add_bitlen {W : Nat} (p : BitVec W) : clz p + bitlen p.toNat = W := by
  have h := leadingZeros_add_bitlen p W
  rwa [Nat.mod_eq_of_lt p.isLt] at h

/-- The split of R147 finds the length of the whole number: the high half is the number without its low 64 bits. -/
theorem log2ceilHalves_eq_bitlen (y : BitVec 128) : log2ceilHalves y = bitlen y.toNat := by
  have hhigh : (y.extractLsb' 64 64).toNat = y.toNat / 2 ^ 64 := by
    rw [BitVec.extractLsb'_toNat, Nat.shiftRight_eq_div_pow]
    omega
  have hlow : (y.extractLsb' 0 64).toNat = y.toNat % 2 ^ 64 := by
    rw [BitVec.extractLsb'_toNat, Nat.shiftRight_zero]
  have hclzHigh := clz_add_bitlen (y.extractLsb' 64 64)
  have hclzLow := clz_add_bitlen (y.extractLsb' 0 64)
  rw [hhigh, bitlen_div_two_pow] at hclzHigh
  unfold log2ceilHalves
  split
  · next hne =>
    have hlong : 64 < bitlen y.toNat := by
      rw [lt_bitlen_iff]
      have : (y.extractLsb' 64 64).toNat ≠ 0 := fun h => hne (BitVec.eq_of_toNat_eq h)
      omega
    omega
  · next hzero =>
    have hshort : y.toNat % 2 ^ 64 = y.toNat := by
      rw [not_not.mp hzero] at hhigh
      have : 0 = y.toNat / 2 ^ 64 := hhigh
      omega
    rw [hlow, hshort] at hclzLow
    omega

/-- The split of R144 is that of R147, each half one less. -/
theorem log2floorHalves_eq_bitlen (x : BitVec 128) : log2floorHalves x = (bitlen x.toNat : Int) - 1 := by
  rw [← log2ceilHalves_eq_bitlen]
  unfold log2floorHalves log2ceilHalves
  split <;> omega

/-! ## How the integer commands end, one equation for all ten formats (R141, R143, R144, R146, R147) -/

section

variable (F : IntFormat) (rd rs1 : Reg) (s : State)

/-- LOG2FLOOR passes its domain check and yields the length of the pattern less one. -/
theorem exec_log2floorInt :
    exec (.log2floorInt F rd rs1) s = .next (s.finish rd (logEnding (intDomain F (s.operand rs1))
      ((bitlen (pat F.width (s.operand rs1)).toNat : Int) - 1))) := by
  have hexec : exec (.log2floorInt F rd rs1) s =
      runC2 (if F.width = 128 then log2floorInt128 F else log2floorInt F) rd rs1 s := by cases F <;> rfl
  rw [hexec, runC2]
  split
  · next hF => rw [log2floorInt128, log2floorHalves_eq_bitlen, hF]
  · have hclz := clz_add_bitlen (pat F.width (s.operand rs1))
    rw [log2floorInt]
    congr 3
    omega

/-- LOG2CEIL passes the same domain check and yields 0 for the value 1, else the length of its predecessor's pattern. -/
theorem exec_log2ceilInt :
    exec (.log2ceilInt F rd rs1) s = .next (s.finish rd (logEnding (intDomain F (s.operand rs1))
      (if value F (s.operand rs1) = 1 then 0
        else (bitlen (enc F.width (value F (s.operand rs1) - 1)).toNat : Int)))) := by
  have hexec : exec (.log2ceilInt F rd rs1) s =
      runC2 (if F.width = 128 then log2ceilInt128 F else log2ceilInt F) rd rs1 s := by cases F <;> rfl
  rw [hexec, runC2]
  split
  · next hF => rw [log2ceilInt128, log2ceilHalves_eq_bitlen, hF]
  · have hclz := clz_add_bitlen (enc F.width (value F (s.operand rs1) - 1))
    rw [log2ceilInt]
    congr 4
    omega

end

/-! ## The commands on a positive value -/

section

variable {F : IntFormat} {a : Word}

theorem intDomain_of_pos (h : 0 < value F a) : intDomain F a = none :=
  if_neg (not_le.mpr h)

/-- The pattern of a positive value, read as an unsigned number, is the value (R10). -/
theorem toNat_pat_of_pos (h : 0 < value F a) : (pat F.width a).toNat = (value F a).toNat := by
  cases hs : F.signed with
  | false => rw [value_unsigned hs, Int.toNat_natCast, toNat_pat]
  | true =>
    rw [value_signed hs] at h ⊢
    rw [BitVec.toInt_eq_toNat_of_msb (BitVec.msb_eq_toInt ▸ decide_eq_false h.not_gt), Int.toNat_natCast]

/-- The predecessor of a positive value is its own pattern (R11, R146). -/
theorem toNat_enc_sub_one (h : 0 < value F a) :
    (enc F.width (value F a - 1)).toNat = (value F a).toNat - 1 := by
  have hlt : (value F a).natAbs < 2 ^ F.width := natAbs_value_lt F a
  have hcast : value F a - 1 = (((value F a).toNat - 1 : Nat) : Int) := by omega
  rw [hcast, enc, BitVec.ofInt_natCast, BitVec.toNat_ofNat, Nat.mod_eq_of_lt (by omega)]

end

section

variable {F : IntFormat} {s : State} {rs1 : Reg}

/-- LOG2FLOOR of a positive value ends OK with `ilog2floor` of it (R143, R144). -/
theorem exec_log2floorInt_of_pos (rd : Reg) (h : 0 < value F (s.operand rs1)) :
    exec (.log2floorInt F rd rs1) s =
      .next (s.finishOk rd (logResult (ilog2floor (value F (s.operand rs1)).toNat))) := by
  have hlen : 0 < bitlen (value F (s.operand rs1)).toNat := bitlen_pos (by omega)
  rw [exec_log2floorInt, intDomain_of_pos h, logEnding_none, State.finish, toNat_pat_of_pos h, ilog2floor,
    Nat.cast_pred hlen]

/-- LOG2CEIL of a positive value ends OK with `ilog2ceil` of it (R146, R147). -/
theorem exec_log2ceilInt_of_pos (rd : Reg) (h : 0 < value F (s.operand rs1)) :
    exec (.log2ceilInt F rd rs1) s =
      .next (s.finishOk rd (logResult (ilog2ceil (value F (s.operand rs1)).toNat))) := by
  have hone : value F (s.operand rs1) = 1 ↔ (value F (s.operand rs1)).toNat = 1 := by omega
  rw [exec_log2ceilInt, intDomain_of_pos h, logEnding_none, State.finish, toNat_enc_sub_one h, ilog2ceil]
  simp only [hone, Nat.cast_ite, Nat.cast_zero]

end

/-- Settles O38: the commands write the two integer logarithms of the value, and those are compared as numbers. -/
theorem log2ceilIsLog2floorOrOneMore : Obligations.Log2ceilIsLog2floorOrOneMore := by
  intro F rd rs1 s h
  have hfloor := exec_log2floorInt_of_pos rd h
  have hceil := exec_log2ceilInt_of_pos rd h
  obtain ⟨v, hv⟩ := Int.eq_ofNat_of_zero_le h.le
  rw [hv, Int.toNat_natCast] at hfloor hceil
  have hpos : 0 < v := by omega
  refine ⟨ilog2floor v, ilog2ceil v, hfloor, hceil, ?oneMore, ?lower, ?upper, ?equal⟩ <;> rw [hv]
  case oneMore => rw [Int.toNat_natCast, ilog2ceil_eq_ite hpos]
  case lower => exact_mod_cast two_pow_ilog2floor_le hpos
  case upper => exact_mod_cast le_two_pow_ilog2ceil hpos
  case equal =>
    rw [ilog2floor_eq_ilog2ceil_iff hpos]
    norm_cast

end Sys2Proof.Machine

/-! # Proofs: MODMUL, and the zero modulus of every ModArith command (R170, R171, R172) -/

namespace Sys2Proof.Machine

/-! ## How the ModArith commands end, one equation for all ten formats (R172, R182, R183, R192) -/

section

variable (F : IntFormat) (rd rs1 rs2 rs3 rs4 : Reg) (s : State)

theorem exec_modmulInt : exec (.modmulInt F rd rs1 rs2 rs3) s =
    .next (s.finish rd (modmul F (s.operand rs1) (s.operand rs2) (s.operand rs3))) := by
  rw [exec_eq_finish]
  simp [Instr.rd, Instr.stem, Instr.format, Instr.sources, Stem.shape, Instr.endingOf, Ending.of3]

theorem exec_modpowInt : exec (.modpowInt F rd rs1 rs2 rs3) s =
    .next (s.finish rd (modpow F (s.operand rs1) (s.operand rs2) (s.operand rs3))) := by
  rw [exec_eq_finish]
  simp [Instr.rd, Instr.stem, Instr.format, Instr.sources, Stem.shape, Instr.endingOf, Ending.of3]

theorem exec_modpowmInt : exec (.modpowmInt F rd rs1 rs2 rs3 rs4) s =
    .next (s.finish rd (modpowm F (s.operand rs1) (s.operand rs2) (s.operand rs3) (s.operand rs4))) := by
  rw [exec_eq_finish]
  simp [Instr.rd, Instr.stem, Instr.format, Instr.sources, Stem.shape, Instr.endingOf, Ending.of4]

theorem exec_modinvInt : exec (.modinvInt F rd rs1 rs2) s =
    .next (s.finish rd (modinv F (s.operand rs1) (s.operand rs2))) := by
  rw [exec_eq_finish]
  simp [Instr.rd, Instr.stem, Instr.format, Instr.sources, Stem.shape, Instr.endingOf, Ending.of2]

end

/-! ## The test of the modulus (R170, R171) -/

section

variable {F : IntFormat} {md : Word}

theorem natCast_modulus (F : IntFormat) (md : Word) : (modulus F md : Int) = |value F md| :=
  Int.natCast_natAbs _

theorem modulus_pos (h : value F md ≠ 0) : 0 < modulus F md :=
  Int.natAbs_pos.mpr h

theorem guardModulus_of_value_eq_zero (h : value F md = 0) (e : Ending) : guardModulus (modulus F md) e = .fatal := by
  rw [modulus, h, Int.natAbs_zero, guardModulus_zero]

theorem guardModulus_of_value_ne_zero (h : value F md ≠ 0) (e : Ending) : guardModulus (modulus F md) e = e :=
  guardModulus_pos (modulus_pos h) e

/-- A residue is a pattern of the format, so its pattern result is the residue itself (R24 (a), R170). -/
theorem residueResult_cmod_modulus (h : value F md ≠ 0) (x : Int) :
    residueResult F (cmod x (modulus F md)) = BitVec.ofInt 128 (x % |value F md|) := by
  have hfits : cmod x (modulus F md) < 2 ^ F.width :=
    (cmod_lt x (modulus_pos h)).trans (by exact_mod_cast modulus_lt F md)
  rw [residueResult_eq F (cmod_nonneg x (modulus_pos h)) hfits, cmod, natCast_modulus]

/-- MODMUL with a modulus other than 0 ends OK with the residue of the exact product (R172). -/
theorem modmul_of_value_ne_zero (h : value F md ≠ 0) (a b : Word) :
    modmul F md a b = .ok (BitVec.ofInt 128 ((value F a * value F b) % |value F md|)) := by
  rw [modmul, guardModulus_of_value_ne_zero h, residueResult_cmod_modulus h]

theorem modmul_of_value_eq_zero (h : value F md = 0) (a b : Word) : modmul F md a b = .fatal :=
  guardModulus_of_value_eq_zero h _

theorem modpow_of_value_eq_zero (h : value F md = 0) (b e : Word) : modpow F md b e = .fatal :=
  guardModulus_of_value_eq_zero h _

theorem modpowm_of_value_eq_zero (h : value F md = 0) (b e k : Word) : modpowm F md b e k = .fatal :=
  guardModulus_of_value_eq_zero h _

theorem modinv_of_value_eq_zero (h : value F md = 0) (n : Word) : modinv F md n = .fatal :=
  guardModulus_of_value_eq_zero h _

end

/-! ## What the fatal fault leaves (R206) -/

@[simp] theorem code_raiseFatal (s : State) : s.raiseFatal.code = Code.fDivzero.number :=
  code_complete s.latchFault .fDivzero

@[simp] theorem halted_raiseFatal (s : State) : s.raiseFatal.halted = true := by
  simp [State.halted]

/-! ## The statements -/

/-- Settles O45: MODMUL ends as its modulus test says; past the test the residue, being less than the modulus, fits the
format, so RD is the residue as a number. -/
theorem modmulIsTheResidueOfTheExactProduct : Obligations.ModmulIsTheResidueOfTheExactProduct := by
  intro F rd r1 r2 r3 s
  refine ⟨?residue, ?fatal, ?word⟩
  case residue =>
    intro h
    rw [exec_modmulInt, modmul_of_value_ne_zero h, State.finish]
  case fatal =>
    intro h
    rw [exec_modmulInt, modmul_of_value_eq_zero h, State.finish]
  case word =>
    rw [toNat_encode, parts_modmulInt]
    rfl

/-- Settles O44: each of the four commands begins with the same test of the modulus, and the rest is what the fatal fault
leaves. -/
theorem zeroModulusIsTheFatalFault : Obligations.ZeroModulusIsTheFatalFault := by
  intro F rd r1 r2 r3 r4 s h
  refine ⟨?modmul, ?modpow, ?modpowm, ?modinv, ⟨rfl, rfl⟩, ⟨rfl, rfl⟩, code_raiseFatal s, halted_raiseFatal s, rfl⟩
  case modmul => rw [exec_modmulInt, modmul_of_value_eq_zero h, State.finish]
  case modpow => rw [exec_modpowInt, modpow_of_value_eq_zero h, State.finish]
  case modpowm => rw [exec_modpowmInt, modpowm_of_value_eq_zero h, State.finish]
  case modinv => rw [exec_modinvInt, modinv_of_value_eq_zero h, State.finish]

end Sys2Proof.Machine

/-! # Proofs: MODPOW with a negative exponent, through the inverse of the base (R180, R186, R191) -/

namespace Sys2Proof.Machine

/-! ## The inverse, as a number (R191) -/

section

variable {W M : Nat} {n x : Int}

/-- A number with an inverse modulo `M` is coprime with `M`. -/
theorem gcd_eq_one_of_mul_modEq_one (h : n * x ≡ 1 [ZMOD M]) : Int.gcd n M = 1 := by
  obtain ⟨c, hc⟩ := h.dvd
  exact Int.isCoprime_iff_gcd_eq_one.mp ⟨x, c, by linear_combination -hc⟩

/-- Two inverses of one number differ by a multiple of the modulus. -/
theorem modEq_of_mul_modEq_one {y : Int} (hx : n * x ≡ 1 [ZMOD M]) (hy : n * y ≡ 1 [ZMOD M]) : x ≡ y [ZMOD M] :=
  calc x = x * 1 := (mul_one x).symm
    _ ≡ x * (n * y) [ZMOD M] := hy.symm.mul_left x
    _ = n * x * y := by ring
    _ ≡ 1 * y [ZMOD M] := hx.mul_right y
    _ = y := one_mul y

/-- The unit answers `x` exactly when `x` is the inverse in `0 .. M-1`: there is only one. -/
theorem inverse_eq_some_iff (hM : 0 < M) (hW : M < 2 ^ W) :
    inverse W M n = some x ↔ 0 ≤ x ∧ x < M ∧ n * x ≡ 1 [ZMOD M] := by
  obtain ⟨hcoprime, hnone⟩ := inverse_spec W M n hM hW
  constructor
  · intro h
    have hgcd : Int.gcd n M = 1 := by
      by_contra hne
      simp [hnone hne] at h
    obtain ⟨y, hy, hrange⟩ := hcoprime hgcd
    obtain rfl : y = x := Option.some.inj (hy.symm.trans h)
    exact hrange
  · rintro ⟨h0, hlt, hx⟩
    obtain ⟨y, hy, hy0, hylt, hyinv⟩ := hcoprime (gcd_eq_one_of_mul_modEq_one hx)
    have hxy : x % M = y % M := modEq_of_mul_modEq_one hx hyinv
    rw [Int.emod_eq_of_lt h0 hlt, Int.emod_eq_of_lt hy0 hylt] at hxy
    rw [hy, hxy]

end

/-! ## The engine with a negative exponent (R180, R181) -/

section

variable {W M : Nat} {b b' e : Int}

theorem powmod_of_nonneg (h : 0 ≤ e) (k : Int) : powmod W M b e k = some (powReduce W M b e.natAbs k) :=
  if_neg (not_lt.mpr h)

theorem powmod_of_neg_of_inverse_eq_some (h : e < 0) (hinv : inverse W M b = some b') (k : Int) :
    powmod W M b e k = some (powReduce W M b' e.natAbs k) := by
  simp only [powmod, if_pos h, hinv]

theorem powmod_of_neg_of_inverse_eq_none (h : e < 0) (hinv : inverse W M b = none) (k : Int) :
    powmod W M b e k = none := by
  simp only [powmod, if_pos h, hinv]

/-- R186 for the engine, with any multiplier: the loop runs on the inverse and the magnitude either way. -/
theorem powmod_eq_powmod_inverse_neg (h : e < 0) (hinv : inverse W M b = some b') (k : Int) :
    powmod W M b e k = powmod W M b' (-e) k := by
  rw [powmod_of_neg_of_inverse_eq_some h hinv, powmod_of_nonneg (by omega), Int.natAbs_neg]

/-- The first power of a residue, with multiplier 1, is the residue (R184). -/
theorem powReduce_one_one (hW : M < 2 ^ W) (h0 : 0 ≤ b) (hlt : b < M) : powReduce W M b 1 1 = b := by
  rw [powReduce_eq W M b 1 1 (by omega), pow_one, one_mul, Int.emod_eq_of_lt h0 hlt]

/-- The engine with exponent -1 and multiplier 1 is the extended-Euclidean unit (R186). -/
theorem powmod_neg_one_one (hM : 0 < M) (hW : M < 2 ^ W) : powmod W M b (-1) 1 = inverse W M b := by
  cases hinv : inverse W M b with
  | none => exact powmod_of_neg_of_inverse_eq_none (by decide) hinv 1
  | some b' =>
    obtain ⟨h0, hlt, -⟩ := (inverse_eq_some_iff hM hW).mp hinv
    rw [powmod_of_neg_of_inverse_eq_some (by decide) hinv]
    exact congrArg some (powReduce_one_one hW h0 hlt)

end

/-! ## MODINV and MODPOW on the operands (R182, R192) -/

section

variable {F : IntFormat} {md n e x : Word}

/-- MODINV past its modulus test ends with the residue or with E_NOINV (R192). -/
theorem modinv_of_value_ne_zero (h : value F md ≠ 0) (n : Word) :
    modinv F md n = residueEnding F (inverse F.width (modulus F md) (value F n)) :=
  guardModulus_of_value_ne_zero h _

theorem modpow_of_value_ne_zero (h : value F md ≠ 0) (b e : Word) :
    modpow F md b e = residueEnding F (powmod F.width (modulus F md) (value F b) (value F e) 1) :=
  guardModulus_of_value_ne_zero h _

theorem residueEnding_eq_ok_iff {r : Option Int} :
    residueEnding F r = .ok x ↔ ∃ q, r = some q ∧ residueResult F q = x := by
  cases r <;> simp [residueEnding]

theorem value_ne_zero_of_modinv_eq_ok (h : modinv F md n = .ok x) : value F md ≠ 0 := by
  intro hzero
  simp [modinv_of_value_eq_zero hzero] at h

/-- A pattern MODINV answers, read back in the format, is the inverse the unit found (R24 (a), R192). -/
theorem inverse_eq_some_value_of_modinv_eq_ok (h : modinv F md n = .ok x) :
    inverse F.width (modulus F md) (value F n) = some (value F x) := by
  have hne := value_ne_zero_of_modinv_eq_ok h
  rw [modinv_of_value_ne_zero hne] at h
  obtain ⟨q, hq, rfl⟩ := residueEnding_eq_ok_iff.mp h
  obtain ⟨h0, hlt, -⟩ := (inverse_eq_some_iff (modulus_pos hne) (modulus_lt F md)).mp hq
  rw [hq, value_residueResult F md h0 hlt]

/-- MODINV answers any number of `0 .. M-1` that is an inverse: there is only one (R192). -/
theorem modinv_eq_ok_of_mul_modEq_one (hne : value F md ≠ 0) {q : Int} (h0 : 0 ≤ q) (hlt : q < modulus F md)
    (hq : value F n * q ≡ 1 [ZMOD modulus F md]) : modinv F md n = .ok (BitVec.ofInt 128 q) := by
  have hfits : q < 2 ^ F.width := hlt.trans (by exact_mod_cast modulus_lt F md)
  rw [modinv_of_value_ne_zero hne, (inverse_eq_some_iff (modulus_pos hne) (modulus_lt F md)).mpr ⟨h0, hlt, hq⟩,
    residueEnding, residueResult_eq F h0 hfits]

/-- MODPOW with exponent -1 ends as MODINV does, with the fatal fault and E_NOINV too (R186). -/
theorem modpow_eq_modinv_of_value_eq_neg_one (he : value F e = -1) (md b : Word) :
    modpow F md b e = modinv F md b := by
  by_cases hmd : value F md = 0
  · rw [modpow_of_value_eq_zero hmd, modinv_of_value_eq_zero hmd]
  · rw [modpow_of_value_ne_zero hmd, modinv_of_value_ne_zero hmd, he,
      powmod_neg_one_one (modulus_pos hmd) (modulus_lt F md)]

/-- The inverse of 13 modulo 17 is 4, since `13 * 4 = 52 = 3 * 17 + 1` (R186). -/
theorem modinv_thirteen_mod_seventeen (hmd : value F md = 17) (hn : value F n = 13) : modinv F md n = .ok 4 := by
  have hM : modulus F md = 17 := by rw [modulus, hmd]; rfl
  refine modinv_eq_ok_of_mul_modEq_one (q := 4) (by omega) (by omega) (by omega) ?_
  rw [hM, hn]
  decide

end

/-- Settles O48: MODINV's answer is the inverse that MODPOW runs its engine on; for exponent -1 the engine gives that
inverse back; and 4 is the one inverse of 13 in `0 .. 16`. -/
theorem negativeExponentIsThePowerOfTheInverse : Obligations.NegativeExponentIsThePowerOfTheInverse := by
  refine ⟨?power, ?minusOne, ?example17⟩
  case power =>
    intro F md b e x e' hneg hinv he'
    have hne := value_ne_zero_of_modinv_eq_ok hinv
    rw [modpow_of_value_ne_zero hne, modpow_of_value_ne_zero hne, he',
      powmod_eq_powmod_inverse_neg hneg (inverse_eq_some_value_of_modinv_eq_ok hinv)]
  case minusOne =>
    intro F rd r1 r2 r3 s he
    rw [exec_modpowInt, exec_modinvInt, modpow_eq_modinv_of_value_eq_neg_one he]
  case example17 =>
    intro F rd r1 r2 s hmd hn
    rw [exec_modinvInt, modinv_thirteen_mod_seventeen hmd hn, State.finish]

end Sys2Proof.Machine

/-! # Proofs: MODINV and the inverse of its inverse (R192, R195) -/

namespace Sys2Proof.Machine

/-! ## All that MODINV answers past its modulus test (R191, R192) -/

section

variable {F : IntFormat} {md n x : Word}

/-- The gcd with the modulus magnitude is the gcd with the modulus itself (R170). -/
theorem gcd_modulus (F : IntFormat) (md : Word) (a : Int) : Int.gcd a (modulus F md) = Int.gcd a (value F md) := by
  rw [Int.gcd, Int.natAbs_natCast, modulus, Int.gcd]

/-- A number coprime with the modulus has its inverse of `0 .. M-1` as answer (R192). -/
theorem exists_modinv_eq_ok (hne : value F md ≠ 0) (hgcd : Int.gcd (value F n) (modulus F md) = 1) :
    ∃ q : Int, 0 ≤ q ∧ q < modulus F md ∧ value F n * q ≡ 1 [ZMOD modulus F md] ∧
      modinv F md n = .ok (BitVec.ofInt 128 q) := by
  obtain ⟨hcoprime, -⟩ := inverse_spec F.width (modulus F md) (value F n) (modulus_pos hne) (modulus_lt F md)
  obtain ⟨q, -, h0, hlt, hq⟩ := hcoprime hgcd
  exact ⟨q, h0, hlt, hq, modinv_eq_ok_of_mul_modEq_one hne h0 hlt hq⟩

/-- A number not coprime with the modulus has no inverse (R192, R203). -/
theorem modinv_eq_noinv (hne : value F md ≠ 0) (hgcd : Int.gcd (value F n) (modulus F md) ≠ 1) :
    modinv F md n = .domain .noinv := by
  obtain ⟨-, hnone⟩ := inverse_spec F.width (modulus F md) (value F n) (modulus_pos hne) (modulus_lt F md)
  rw [modinv_of_value_ne_zero hne, hnone hgcd, residueEnding]

/-- MODINV of its own answer `x` is the residue of the number: `x` read in the format is an inverse of the number, so the
residue is an inverse of `x`, and the one in `0 .. M-1` (R195). -/
theorem modinv_of_modinv_eq_ok (h : modinv F md n = .ok x) :
    modinv F md x = .ok (BitVec.ofInt 128 (value F n % |value F md|)) := by
  have hne := value_ne_zero_of_modinv_eq_ok h
  have hM := modulus_pos hne
  obtain ⟨-, -, hinv⟩ :=
    (inverse_eq_some_iff hM (modulus_lt F md)).mp (inverse_eq_some_value_of_modinv_eq_ok h)
  have hback : value F x * cmod (value F n) (modulus F md) ≡ 1 [ZMOD modulus F md] :=
    calc value F x * cmod (value F n) (modulus F md)
        ≡ value F x * value F n [ZMOD modulus F md] := (Int.mod_modEq _ _).mul_left _
      _ = value F n * value F x := mul_comm _ _
      _ ≡ 1 [ZMOD modulus F md] := hinv
  rw [modinv_eq_ok_of_mul_modEq_one hne (cmod_nonneg _ hM) (cmod_lt _ hM) hback, cmod, natCast_modulus]

/-- The inverse of 13 modulo 7 is 6, since `13 * 6 = 78 = 11 * 7 + 1` (R195). -/
theorem modinv_thirteen_mod_seven (hmd : value F md = 7) (hn : value F n = 13) : modinv F md n = .ok 6 := by
  have hM : modulus F md = 7 := by rw [modulus, hmd]; rfl
  refine modinv_eq_ok_of_mul_modEq_one (q := 6) (by omega) (by omega) (by omega) ?_
  rw [hM, hn]
  decide

end

/-! ## The command (R192) -/

section

variable {F : IntFormat} {s : State} {rd r1 r2 : Reg}

theorem exec_modinvInt_of_eq_ok {x : Word} (h : modinv F (s.operand r1) (s.operand r2) = .ok x) :
    exec (.modinvInt F rd r1 r2) s = .next (s.finishOk rd x) := by
  rw [exec_modinvInt, h, State.finish]

theorem exec_modinvInt_of_gcd_ne_one (hne : value F (s.operand r1) ≠ 0)
    (hgcd : Int.gcd (value F (s.operand r2)) (modulus F (s.operand r1)) ≠ 1) :
    exec (.modinvInt F rd r1 r2) s = .next (s.raiseError .eNoinv) := by
  rw [exec_modinvInt, modinv_eq_noinv hne hgcd]
  rfl

/-- A second MODINV on the RD of one that ended OK, with the modulus still in its register, gives the residue (R195). -/
theorem exec_modinvInt_finishOk {x : Word} (hrd : rd ≠ r1) (h : modinv F (s.operand r1) (s.operand r2) = .ok x)
    (rd' : Reg) :
    exec (.modinvInt F rd' r1 rd) (s.finishOk rd x) = .next ((s.finishOk rd x).finishOk rd'
      (BitVec.ofInt 128 (value F (s.operand r2) % |value F (s.operand r1)|))) := by
  apply exec_modinvInt_of_eq_ok
  rw [operand_finishOk, operand_finishOk, if_neg hrd.symm, if_pos rfl, modinv_of_modinv_eq_ok h]

end

/-! ## The statements -/

/-- Settles O49: the three cases of the modulus and the gcd are the three endings of MODINV. -/
theorem modinvIsTheInverse : Obligations.ModinvIsTheInverse := by
  intro F rd r1 r2 s
  refine ⟨⟨?fatal, ?inverse, ?noinv⟩, ?word⟩
  case fatal =>
    intro hzero
    rw [exec_modinvInt, modinv_of_value_eq_zero (Int.natAbs_eq_zero.mp hzero), State.finish]
  case inverse =>
    intro hpos hgcd
    obtain ⟨q, h0, hlt, hq, hok⟩ := exists_modinv_eq_ok (Int.natAbs_pos.mp hpos) hgcd
    exact ⟨q, h0, hlt, hq, exec_modinvInt_of_eq_ok hok⟩
  case noinv =>
    intro hpos hgcd
    exact exec_modinvInt_of_gcd_ne_one (Int.natAbs_pos.mp hpos) hgcd.ne'
  case word =>
    rw [toNat_encode, parts_modinvInt]
    rfl

/-- Settles O50: the first command leaves the modulus in its register and the inverse in RD, of which the number's residue
is the inverse again; 6 is the one inverse of 13 in `0 .. 6`. The premise that the modulus register is written goes unused:
two `exec` with no step between read the same free value, and what holds for `M > 1` here holds for `M = 1`. -/
theorem inverseOfTheInverseIsTheResidue : Obligations.InverseOfTheInverseIsTheResidue := by
  refine ⟨?roundTrip, ?noinv, ?example7⟩
  case roundTrip =>
    intro F rd rd' r1 r2 s t hrd _ hM hgcd hexec
    have hne : value F (s.operand r1) ≠ 0 := abs_pos.mp (by omega)
    rw [← gcd_modulus] at hgcd
    obtain ⟨q, -, -, -, hok⟩ := exists_modinv_eq_ok hne hgcd
    rw [exec_modinvInt_of_eq_ok hok] at hexec
    cases hexec
    exact exec_modinvInt_finishOk hrd hok rd'
  case noinv =>
    intro F rd r1 r2 s hne hgcd
    rw [← gcd_modulus] at hgcd
    exact exec_modinvInt_of_gcd_ne_one hne hgcd.ne'
  case example7 =>
    intro F rd r1 r2 s hmd hn
    exact exec_modinvInt_of_eq_ok (modinv_thirteen_mod_seven hmd hn)

end Sys2Proof.Machine

/-! # Proofs: the halted block (R207) -/

namespace Sys2Proof.Machine

open Sys2Proof.Safety

section

variable (s : State)

/-- Of the values STATUS can have in a run, `0x104` is the one with FAULT set (R25, R206). -/
theorem halted_iff_of_statusReachable (h : StatusReachable s) : s.halted = true ↔ s.status = 0x104 := by
  rcases h with h | h | h | h | h | h <;> (rw [State.halted, h]; decide)

/-- A step that has an Issue before it refuses it while the block is halted, whatever the word (R207). -/
theorem step_issue_of_halted {w : CommandWord} {rest : List Txn} (h : s.script = .issue w :: rest)
    (hs : s.halted = true) : step s = .next (s.take rest).refuseHalted :=
  (step_perform s h).trans (issue_halted (s.take rest) w hs)

/-- A step that has a ReadReg before it performs it, halted or not (R44). -/
theorem step_readReg {i : Reg} {rest : List Txn} (h : s.script = .readReg i :: rest) :
    step s = .next ((s.take rest).readRegTxn i) :=
  step_perform s h

/-- A step from the halted block performs a Reset or leaves STATUS as it is (R26, R207). -/
theorem reset_or_status_eq_of_step {t : State} (hs : s.halted = true) (h : step s = .next t) :
    (∃ rest, s.script = .reset :: rest) ∨ t.status = s.status := by
  rcases step_cases s h with
    ⟨-, rfl⟩ | ⟨rest, ⟨hreset, -⟩ | ⟨i, v, -, rfl⟩ | ⟨i, -, rfl⟩ | ⟨n, -, rfl⟩ | ⟨w, -, hissue⟩⟩
  · exact .inr rfl
  · exact .inl ⟨rest, hreset⟩
  · exact .inr rfl
  · exact .inr rfl
  · exact .inr rfl
  · rcases hissue with ⟨-, rfl⟩ | ⟨hready, -, -⟩ | ⟨hready, -, -⟩
    · exact .inr rfl
    · simp [hs] at hready
    · simp [hs] at hready

end

/-! ## The statements -/

/-- Settles O16: each transaction's clause is the step's own equation; a step with no Reset leaves STATUS, and so FAULT,
as it was. -/
theorem haltedBlockRefusesEveryIssue : Obligations.HaltedBlockRefusesEveryIssue := by
  intro s hreach hs
  refine ⟨(halted_iff_of_statusReachable s hreach).mp hs, ?issue, fun i v rest => step_writeReg s,
    fun i rest => step_readReg s, fun n rest => step_readCsr s, ?leave⟩
  case issue =>
    intro w rest hscript
    exact ⟨_, step_issue_of_halted s hscript hs, ⟨rfl, rfl⟩, rfl, rfl, rfl⟩
  case leave =>
    intro t hstep hready
    refine (reset_or_status_eq_of_step s hs hstep).resolve_right fun hstatus => ?_
    have hsame : t.halted = s.halted := congrArg faultField hstatus
    simp [hsame, hs] at hready

end Sys2Proof.Machine

/-! # Proofs: the decoder and the encoder, and the written form of a command (R61 to R66, R70, R71) -/

namespace Sys2Proof

open Sys2Proof.Machine

/-! ## A command and the fields of its word -/

theorem instrOf_parts (i : Instr) : instrOf i.parts = some i := by
  cases i <;> rfl

/-- A command's parts are 0 in the source fields its shape does not use (R61). -/
theorem clearUnused_parts (i : Instr) : i.parts.clearUnused = i.parts :=
  (parts_of_instrOf (instrOf_parts i)).symm

/-- The fields of parts that are 0 where the shape has no operand are in the parts' row (R65). -/
theorem Parts.inRow_fields {p : Parts} (h : p.clearUnused = p) : p.fields.InRow p.stem p.fmt := by
  refine ⟨rfl, rfl, rfl, rfl, ?_⟩
  rw [← h]
  obtain ⟨stem, F, rd, rs1, rs2, rs3, rs4⟩ := p
  cases stem <;> rfl

/-- The parts read from the fields of parts are those parts (R61). -/
theorem Parts.partsIn_fields (p : Parts) : p.fields.partsIn p.stem p.fmt = p := rfl

/-- The fields of the parts read from a row's fields are those fields: a row leaves no other bit free (R65). -/
theorem Fields.InRow.fields_partsIn {f : Fields} {stem : Stem} {F : Format} (h : f.InRow stem F) :
    (f.partsIn stem F).fields = f := by
  obtain ⟨op, fmt, rd, rs1, rs2, rs3, rs4, m, zero⟩ := f
  obtain ⟨rfl, rfl, rfl, rfl, -⟩ := h
  rfl

/-! ## The two halves of the round trip -/

/-- Settles O1: the fields the encoder writes are in the row of the command, and the decoder answers that row's command
with the registers of the fields. -/
theorem decodeReadsBackEncode : Obligations.DecodeReadsBackEncode := by
  intro i
  rw [encode, decode_wordOf, decodeFields_eq_ok_iff]
  refine ⟨i.parts.stem, i.parts.fmt, Parts.inRow_fields (clearUnused_parts i), ?_⟩
  rw [Parts.partsIn_fields, instrOf_parts]

/-- Settles O2: a word that decodes is in the row of its command, and a row's fields are those of its parts. -/
theorem legalWordIsItsCommandsWord : Obligations.LegalWordIsItsCommandsWord := by
  intro w i hdec
  obtain ⟨hrow, hparts⟩ := parts_of_decodeFields hdec
  rw [encode, hparts, hrow.fields_partsIn, wordOf_fieldsOf]

/-! ## The written form -/

/-- A line with the operands of a command names the command: a shape's operands are all its register fields (R70). -/
theorem commandOf_operandList (i : Instr) : commandOf i.stem i.format (operandList i) = some i := by
  rw [← instrOf_parts i, ← clearUnused_parts i]
  simp only [Instr.stem, Instr.format, operandList, Instr.rd, Instr.sources]
  generalize i.parts = p
  obtain ⟨stem, F, rd, rs1, rs2, rs3, rs4⟩ := p
  cases stem <;> rfl

/-- The operands of a command never make its stem a pseudo-instruction: `modpow` has four (R71). -/
theorem lineStem_operandList (i : Instr) : lineStem i.stem (operandList i) = i.stem := by
  simp only [Instr.stem, operandList, Instr.sources]
  cases i.parts.stem <;> rfl

theorem txn_commandLine (i : Instr) :
    (Line.command i.stem i.format (operandList i)).txn = some (.issue (encode i)) := by
  rw [Line.txn, lineStem_operandList, commandOf_operandList, Option.map_some]

/-- Settles O6: a command's line names the command again; `modpow` with five operands is the line of the `modpowm`. -/
theorem writtenCommandsAssembleToTheirWords : Obligations.WrittenCommandsAssembleToTheirWords :=
  ⟨txn_commandLine, fun _ _ _ _ _ _ => rfl⟩

/-- Settles O5: each word is the word of its command, so it decodes to it; the texts are the table's. -/
theorem writtenWordsDecodeToTheirCommands : Obligations.WrittenWordsDecodeToTheirCommands := by
  have decodes {w : CommandWord} {i : Instr} (h : encode i = w) : decode w = .ok i := h ▸ decodeReadsBackEncode i
  refine ⟨decodes rfl, ?_, decodes rfl, ?_, decodes rfl, ?_, decodes rfl, ?_, decodes rfl, ?_, decodes rfl, ?_,
    decodes rfl, ?_, decodes rfl, ?_⟩ <;> decide

end Sys2Proof

/-! # Proofs: what a step does and what the next one sees (R26, R29, R43 to R48, R53, R230, R235) -/

namespace Sys2Proof.Machine

open Sys2Proof.Safety

/-! ## Registers that have been written, and registers that have not (R29) -/

section

variable {s : State} {r : Reg}

theorem operand_of_written (h : s.written[r] = true) : s.operand r = s.regs[r] :=
  if_pos h

theorem operand_of_not_written (h : s.written[r] = false) : s.operand r = Config.unspecifiedReg s.fresh r :=
  if_neg (by simp [h])

/-- A register written before a transaction is taken reads as its content while that transaction runs. -/
theorem operand_take_of_written (rest : List Txn) (h : s.written[r] = true) :
    (s.take rest).operand r = s.regs[r] :=
  operand_of_written (s := s.take rest) h

end

section

variable (s : State)

theorem written_reset (r : Reg) : State.reset.written[r] = false := by
  simp [State.reset]

@[simp] theorem halted_take (rest : List Txn) : (s.take rest).halted = s.halted := rfl

@[simp] theorem code_resetTxn : s.resetTxn.code = 0 := by
  rw [State.code, State.resetTxn_status]
  decide

@[simp] theorem halted_resetTxn : s.resetTxn.halted = false := by
  rw [State.halted, State.resetTxn_status]
  decide

theorem writeRegTxn_regs_self (i : Reg) (v : Word) : (s.writeRegTxn i v).regs[i] = v := by
  simp

theorem finishOk_written_self (rd : Reg) (v : Word) : (s.finishOk rd v).written[rd] = true := by
  simp

end

/-! ## One step, transaction by transaction -/

section

variable {s t : State} {rest : List Txn} {w : CommandWord} {i : Instr}

theorem step_reset (h : s.script = .reset :: rest) : step s = .next (s.take rest).resetTxn :=
  step_perform s h

/-- A step that has an Issue of a legal word before it runs the command, unless the block is halted (R45). -/
theorem step_issue_legal (h : s.script = .issue w :: rest) (hready : s.halted = false) (hd : decode w = .ok i) :
    step s = exec i (s.take rest) :=
  (step_perform s h).trans (issue_legal (s.take rest) hready hd)

/-- Every transaction answers a next state (R235). -/
theorem exists_perform (x : Txn) (s : State) : ∃ t, perform x s = .next t := by
  cases x with
  | reset => exact ⟨_, rfl⟩
  | writeReg i v => exact ⟨_, rfl⟩
  | readReg i => exact ⟨_, rfl⟩
  | readCsr n => exact ⟨_, rfl⟩
  | issue w =>
    rcases issue_cases s w with ⟨-, h⟩ | ⟨-, -, h⟩ | ⟨-, i, -, h⟩
    · exact ⟨_, h⟩
    · exact ⟨_, h⟩
    · exact ⟨_, h⟩

/-- Any transaction is performed on the state the one before it left (R53). -/
theorem step_step {x y : Txn} (h : s.script = x :: y :: rest) (hstep : step s = .next t) :
    step t = perform y (t.take rest) :=
  step_perform t (script_step s h hstep)

/-- A command that answers OK ran on a block that was not halted and wrote RD, as its last act (R24, R45). -/
theorem finishOk_of_step_issue (h : s.script = .issue w :: rest) (hd : decode w = .ok i) (hstep : step s = .next t)
    (hok : t.response = some (.outcome .ok)) :
    s.halted = false ∧ ∃ v, t = (s.take rest).finishOk i.rd v := by
  rw [step_perform s h] at hstep
  rcases issue_cases (s.take rest) w with ⟨-, he⟩ | ⟨-, ⟨r, hr⟩, -⟩ | ⟨hready, j, hj, he⟩
  · rw [perform, he] at hstep
    cases hstep
    simp at hok
  · simp [hd] at hr
  · obtain rfl : i = j := by simpa [hd] using hj
    rw [perform, he] at hstep
    cases hstep
    generalize Instr.endingOf i (i.sources.map (s.take rest).operand) = e at hok ⊢
    cases e with
    | ok v => exact ⟨hready, v, rfl⟩
    | domain d => simp [Ending.code] at hok
    | fatal => simp [Ending.code] at hok

/-- An Issue that is not refused leaves in CODE the outcome it returns (R45, R205). -/
theorem step_issue_code (h : s.script = .issue w :: rest) (hready : s.halted = false) :
    ∃ t c, step s = .next t ∧ t.response = some (.outcome c) ∧ t.code = c.number ∧ t.script = rest := by
  rw [step_perform s h]
  rcases issue_cases (s.take rest) w with ⟨hhalt, -⟩ | ⟨-, -, he⟩ | ⟨-, j, -, he⟩
  · simp [hready] at hhalt
  · exact ⟨_, .eIllegal, he, rfl, code_complete _ _, rfl⟩
  · exact ⟨_, _, he, response_finish .., code_finish .., script_finish ..⟩

end

/-! ## The statements about one transaction -/

/-- Settles O7: the step performs the Issue, which runs the command of a legal word on a block that is not halted. -/
theorem stepRunsTheDecodedCommand : Obligations.StepRunsTheDecodedCommand :=
  fun _ _ _ _ hscript hready hd => step_issue_legal hscript hready hd

/-- Settles O8: with no transaction the state stays, and each transaction answers a next state. -/
theorem everyStepAnswersANextState : Obligations.EveryStepAnswersANextState := by
  intro s
  cases hs : s.script with
  | nil => exact ⟨s, step_idle s hs⟩
  | cons x rest =>
    rw [step_perform s hs]
    exact exists_perform x _

/-- Settles O10: the step is the ReadReg transaction itself, whose only effect is the response. -/
theorem readRegReturnsTheRegisterAndChangesNothing : Obligations.ReadRegReturnsTheRegisterAndChangesNothing := by
  refine ⟨?once, ?twice⟩
  case once =>
    intro s rest i hscript
    refine ⟨_, step_readReg s hscript, ⟨rfl, rfl⟩, rfl, rfl, fun hw => ?_⟩
    rw [State.readRegTxn_response, operand_take_of_written rest hw]
  case twice =>
    intro s rest i hscript hw
    refine ⟨_, _, step_readReg s hscript, step_readReg _ rfl, ?_⟩
    simp only [State.readRegTxn_response]
    rw [operand_of_written (by exact hw), operand_of_written (by exact hw)]
    rfl

/-- Settles O11: the response is the operand as the transaction reads it, and the counter has advanced by one. -/
theorem unwrittenRegisterReadsAsAFreeValue : Obligations.UnwrittenRegisterReadsAsAFreeValue := by
  intro s rest i hscript hw
  refine ⟨_, step_readReg s hscript, ⟨rfl, rfl⟩, rfl, ?_⟩
  rw [State.readRegTxn_response, operand_of_not_written (s := s.take rest) hw, State.take_fresh]

/-- Settles O13: the Reset transaction takes STATUS and the written bits from the state after Reset. -/
theorem resetClearsStatusAndUnwritesRegisters : Obligations.ResetClearsStatusAndUnwritesRegisters := by
  intro s rest hscript
  refine ⟨_, step_reset hscript, rfl, halted_resetTxn _, code_resetTxn _, rfl, rfl, fun r => ?_⟩
  have hw : (s.take rest).resetTxn.written[r] = false := written_reset r
  exact ⟨hw, operand_of_not_written hw⟩

/-- Settles O14: STATUS 0 is the first of the values a run can have. -/
theorem resetStateHasLegalStatus : Obligations.ResetStateHasLegalStatus :=
  ⟨.inl rfl, rfl, written_reset⟩

/-! ## The statement about two transactions in a row -/

/-- Settles O15: the second transaction is performed on the state the first one left, whose registers and STATUS are known
from the first one's own equation. -/
theorem nextTransactionSeesTheWriteBefore : Obligations.NextTransactionSeesTheWriteBefore := by
  refine ⟨fun s t x y rest => step_step, ?writeRead, ?commandRead, ?issueCsr, ?writeCommand, ?commandCommand⟩
  case writeRead =>
    intro s rest i v hscript
    refine ⟨_, _, step_writeReg s hscript, step_readReg _ rfl, ?_⟩
    rw [State.readRegTxn_response, operand_take_of_written _ (writeRegTxn_written_self _ i v), writeRegTxn_regs_self]
  case commandRead =>
    intro s t rest w i hscript hd hstep hok
    obtain ⟨-, v, rfl⟩ := finishOk_of_step_issue hscript hd hstep hok
    have hw := finishOk_written_self (s.take (.readReg i.rd :: rest)) i.rd v
    refine ⟨_, step_step hscript hstep, hw, ?_⟩
    rw [State.readRegTxn_response, operand_take_of_written _ hw]
  case issueCsr =>
    intro s rest w hscript hready
    obtain ⟨t, c, hstep, hresponse, hcode, hrest⟩ := step_issue_code hscript hready
    exact ⟨t, _, c, hstep, hresponse, step_readCsr t hrest, by simp, hcode⟩
  case writeCommand =>
    intro s rest i v w j hscript hready hd
    refine ⟨_, step_writeReg s hscript, step_issue_legal rfl hready hd, ?self, ?others⟩
    case self => rw [operand_take_of_written _ (writeRegTxn_written_self _ i v), writeRegTxn_regs_self]
    case others =>
      intro r hr hw
      obtain ⟨hregs, hwritten⟩ := writeRegTxn_sameRegsBut (s.take (.issue w :: rest)) i v r hr
      rw [operand_take_of_written _ (hwritten.trans hw), hregs, State.take_regs]
  case commandCommand =>
    intro s t rest w w' i j hscript hd hd' hstep hok
    obtain ⟨hready, v, rfl⟩ := finishOk_of_step_issue hscript hd hstep hok
    refine ⟨step_issue_legal rfl ?ready hd', operand_take_of_written _ (finishOk_written_self _ i.rd v), ?others⟩
    case ready => exact (halted_complete _ .ok).trans hready
    case others =>
      intro r hr hw
      obtain ⟨hregs, hwritten⟩ := finish_regs_of_ne (s.take (.issue w' :: rest)) hr (.ok v)
      rw [State.finish] at hregs hwritten
      rw [operand_take_of_written _ (hwritten.trans hw), hregs, State.take_regs]

end Sys2Proof.Machine

/-! # Proofs: STATUS along a run (R25, R26, R206, R235) -/

namespace Sys2Proof.Machine

open Sys2Proof.Safety

/-! ## The values a run gives STATUS -/

/-- A write to CODE and a write to FAULT do not meet (R25). -/
theorem setCodeField_setFaultField (st : StatusWord) (c : BitVec 4) :
    setCodeField (setFaultField st) c = setFaultField (setCodeField st c) := by
  apply BitVec.eq_of_getLsbD_eq
  intro k _
  simp only [getLsbD_setCodeField, getLsbD_setFaultField]
  by_cases h4 : k < 4
  · simp [h4, show k ≠ 8 by omega]
  · simp [h4]

/-- While the block is not halted STATUS holds CODE alone, so a new CODE is all it holds then (R25). -/
theorem setCodeField_of_ready {s : State} (h : StatusReachable s) (hready : s.halted = false) (c : BitVec 4) :
    setCodeField s.status c = c.setWidth 32 := by
  have hupper : s.status.extractLsb' 4 28 = 0 := by
    rcases h with h | h | h | h | h | h
    on_goal 6 =>
      rw [State.halted, h] at hready
      exact absurd hready (by decide)
    all_goals
      rw [h]
      decide
  rw [setCodeField, hupper]
  revert c
  decide

section

variable {s : State}

theorem statusReachable_congr {t : State} (h : StatusReachable s) (hstatus : t.status = s.status) :
    StatusReachable t := by
  rwa [StatusReachable, hstatus]

/-- Every CODE but that of the fatal fault and that of a refusal stands in STATUS alone (R25, R203, R205). -/
theorem statusReachable_complete (h : StatusReachable s) (hready : s.halted = false) {c : Code} (hc : c ≠ .fDivzero)
    (hc' : c ≠ .eHalted) : StatusReachable (s.complete c) := by
  rw [StatusReachable, State.complete_status, setCodeField_of_ready h hready]
  cases c with
  | fDivzero => exact absurd rfl hc
  | eHalted => exact absurd rfl hc'
  | ok | eNonpos | eNonfinite | eNoinv | eIllegal => decide

/-- The fatal fault leaves `0x104` (R206). -/
theorem statusReachable_raiseFatal (h : StatusReachable s) (hready : s.halted = false) :
    StatusReachable s.raiseFatal := by
  rw [StatusReachable, State.raiseFatal_status, setCodeField_setFaultField, setCodeField_of_ready h hready]
  decide

theorem statusReachable_finish (h : StatusReachable s) (hready : s.halted = false) (rd : Reg) (e : Ending) :
    StatusReachable (s.finish rd e) := by
  cases e with
  | ok v => exact statusReachable_complete (s := s.setReg rd v) h hready (by decide) (by decide)
  | domain d => exact statusReachable_complete h hready d.code_ne_fDivzero (by cases d <;> decide)
  | fatal => exact statusReachable_raiseFatal h hready

/-- A step keeps STATUS at a value a run can have: only a Reset and an Issue that is not refused write it. -/
theorem statusReachable_step {t : State} (h : StatusReachable s) (hstep : step s = .next t) : StatusReachable t := by
  rcases step_cases s hstep with
    ⟨-, rfl⟩ | ⟨rest, ⟨-, rfl⟩ | ⟨i, v, -, rfl⟩ | ⟨i, -, rfl⟩ | ⟨n, -, rfl⟩ | ⟨w, -, hissue⟩⟩
  · exact h
  · exact .inl rfl
  · exact h
  · exact h
  · exact h
  · have htake : StatusReachable (s.take rest) := h
    rcases hissue with ⟨-, rfl⟩ | ⟨hready, -, rfl⟩ | ⟨hready, i, -, rfl⟩
    · exact h
    · exact statusReachable_complete htake hready (by decide) (by decide)
    · exact statusReachable_finish htake hready i.rd _

theorem statusLegal_of_statusReachable (h : StatusReachable s) : StatusLegal s := by
  rcases h with h | h | h | h | h | h <;> simp [StatusLegal, h]

end

/-- Every run from a state with a reachable STATUS answers one (R235). -/
theorem exists_run_statusReachable (k : Nat) :
    ∀ s : State, StatusReachable s → ∃ t, Sys2Proof.core.run k s = .next t ∧ StatusReachable t := by
  induction k with
  | zero => exact fun s h => ⟨s, run_zero s, h⟩
  | succ k ih =>
    intro s h
    obtain ⟨u, hu⟩ := everyStepAnswersANextState s
    rw [run_succ hu]
    exact ih u (statusReachable_step h hu)

/-! ## What sets FAULT (R26, R206) -/

/-- The fatal fault is the one ending that returns F_DIVZERO (R206). -/
theorem Ending.code_eq_fDivzero_iff (e : Ending) : e.code = .fDivzero ↔ e = .fatal := by
  cases e with
  | ok v => simp [Ending.code]
  | domain d => simp [Ending.code]
  | fatal => simp [Ending.code]

theorem halted_congr {s t : State} (h : t.status = s.status) : t.halted = s.halted :=
  congrArg faultField h

/-- From a block that is not halted, a step that sets FAULT is the Issue of a legal word that ends with the fatal fault
(R26, R206). -/
theorem issue_of_step_sets_fault {s t : State} (hstep : step s = .next t) (hready : s.halted = false)
    (hfault : t.halted = true) :
    ∃ w rest i, s.script = .issue w :: rest ∧ decode w = .ok i ∧ t.response = some (.outcome .fDivzero) := by
  have hstatus : t.status ≠ s.status := fun h => by simp [halted_congr h, hready] at hfault
  rcases step_cases s hstep with
    ⟨-, rfl⟩ | ⟨rest, ⟨-, rfl⟩ | ⟨i, v, -, rfl⟩ | ⟨i, -, rfl⟩ | ⟨n, -, rfl⟩ | ⟨w, hscript, hissue⟩⟩
  · exact absurd rfl hstatus
  · simp at hfault
  · exact absurd rfl hstatus
  · exact absurd rfl hstatus
  · exact absurd rfl hstatus
  · rcases hissue with ⟨-, rfl⟩ | ⟨-, -, rfl⟩ | ⟨-, i, hd, rfl⟩
    · exact absurd rfl hstatus
    · simp [State.raiseError, hready] at hfault
    · rw [halted_finish, halted_take, hready, Bool.false_or, decide_eq_true_eq] at hfault
      exact ⟨w, rest, i, hscript, hd, by rw [response_finish, (Ending.code_eq_fDivzero_iff _).mpr hfault]⟩

/-! ## The statements -/

/-- Settles O18: each of the things a step can do is one lemma about the STATUS it leaves. -/
theorem everyStepKeepsStatusLegal : Obligations.EveryStepKeepsStatusLegal :=
  fun _ _ => statusReachable_step

/-- Settles O19, by induction on the number of steps: STATUS is 0 after Reset whatever the script, every step answers a
next state, and every step keeps the invariant. -/
theorem everyRunFromResetIsSafeAndLegal : Obligations.EveryRunFromResetIsSafeAndLegal := by
  intro program k
  obtain ⟨t, hrun, ht⟩ := exists_run_statusReachable k { State.reset with script := program } (.inl rfl)
  exact ⟨t, hrun, ht, statusLegal_of_statusReachable ht⟩

/-- Settles O17: of all a step can do, the end of a command alone sets FAULT, when it is the fatal fault, and Reset alone
clears it. -/
theorem onlyDivzeroSetsAndOnlyResetClearsFault : Obligations.OnlyDivzeroSetsAndOnlyResetClearsFault := by
  intro s t hstep
  refine ⟨fun hready => ?set, fun hhalted => ?cleared⟩
  case set =>
    refine ⟨issue_of_step_sets_fault hstep hready, ?_⟩
    rintro ⟨w, rest, i, hscript, hd, hresponse⟩
    rw [step_issue_legal hscript hready hd, exec_eq_finish] at hstep
    cases hstep
    rw [response_finish, Option.some_inj, Response.outcome.injEq, Ending.code_eq_fDivzero_iff] at hresponse
    rw [halted_finish, hresponse, decide_eq_true rfl, Bool.or_true]
  case cleared =>
    constructor
    · intro hready
      refine (reset_or_status_eq_of_step s hhalted hstep).resolve_right fun hstatus => ?_
      simp [halted_congr hstatus, hhalted] at hready
    · rintro ⟨rest, hscript⟩
      rw [step_reset hscript] at hstep
      cases hstep
      exact halted_resetTxn _

end Sys2Proof.Machine

/-! # Proofs: what every command changes, what it raises and what it reads (R5, R22, R24, R45, R201) -/

namespace Sys2Proof.Machine

open Sys2Proof.Safety

/-! ## The frame of a command -/

/-- The one next state of a command is its ending, taken on the state it ran in (R45). -/
theorem eq_finish_of_exec {i : Instr} {s t : State} (h : exec i s = .next t) :
    t = s.finish i.rd (Instr.endingOf i (i.sources.map s.operand)) := by
  rw [exec_eq_finish] at h
  cases h
  rfl

/-- A command that ends OK has written RD (R24). -/
theorem finish_written_of_ok (s : State) (rd : Reg) {e : Ending} (h : e.code = .ok) :
    (s.finish rd e).written[rd] = true := by
  cases e with
  | ok v => exact finishOk_written_self s rd v
  | domain d => exact absurd h d.code_ne_ok
  | fatal => cases h

/-- No command returns the code of an illegal word or that of a refusal (R45, R200). -/
theorem Ending.code_ne_illegal_and_ne_halted (e : Ending) : e.code ≠ .eIllegal ∧ e.code ≠ .eHalted := by
  cases e with
  | ok v => simp [Ending.code]
  | domain d => cases d <;> decide
  | fatal => decide

/-- Settles O20: each clause is one of the rules about the end of a command. -/
theorem commandChangesOnlyRdCodeAndFault : Obligations.CommandChangesOnlyRdCodeAndFault := by
  intro i s t hexec
  obtain rfl := eq_finish_of_exec hexec
  generalize Instr.endingOf i (i.sources.map s.operand) = e
  obtain ⟨hillegal, hhalted⟩ := e.code_ne_illegal_and_ne_halted
  refine ⟨fun r hr => finish_regs_of_ne s hr e, ⟨script_finish s i.rd e, fresh_finish s i.rd e⟩,
    fun k h4 h8 => finish_status_elsewhere s i.rd e h4 h8, e.code, response_finish s i.rd e, code_finish s i.rd e,
    hillegal, hhalted, finish_written_of_ok s i.rd, finish_regs_of_not_ok s, ?_⟩
  rw [halted_finish, Ending.code_eq_fDivzero_iff, Bool.or_eq_true, decide_eq_true_iff]

/-! ## The outcomes of each family (R201) -/

theorem code_logEnding_intDomain (F : IntFormat) (a : Word) (n : Int) :
    (logEnding (intDomain F a) n).code = .ok ∨ (logEnding (intDomain F a) n).code = .eNonpos := by
  unfold intDomain
  split
  · exact .inr rfl
  · exact .inl rfl

theorem code_logEnding_floatDomain (F : FloatFormat) (d : FloatParts) (n : Int) :
    (logEnding (floatDomain F d) n).code = .ok ∨ (logEnding (floatDomain F d) n).code = .eNonpos ∨
      (logEnding (floatDomain F d) n).code = .eNonfinite := by
  unfold floatDomain
  split
  · exact .inr (.inl rfl)
  · split
    · exact .inr (.inr rfl)
    · exact .inl rfl

/-- Past the test of the modulus a ModArith command ends as it would without it (R171). -/
theorem code_guardModulus (M : Nat) (e : Ending) :
    (guardModulus M e).code = e.code ∨ (guardModulus M e).code = .fDivzero := by
  unfold guardModulus
  split
  · exact .inr rfl
  · exact .inl rfl

theorem code_guardModulus_residueEnding (M : Nat) (F : IntFormat) (r : Option Int) :
    (guardModulus M (residueEnding F r)).code = .ok ∨ (guardModulus M (residueEnding F r)).code = .eNoinv ∨
      (guardModulus M (residueEnding F r)).code = .fDivzero := by
  rcases code_guardModulus M (residueEnding F r) with h | h
  · rw [h]
    cases r with
    | some q => exact .inl rfl
    | none => exact .inr (.inl rfl)
  · exact .inr (.inr h)

theorem legalPair_parts (i : Instr) : legalPair i.parts.stem i.parts.fmt = true :=
  (exists_instrOf_iff i.parts).mp ⟨i, instrOf_parts i⟩

/-- Settles O21: the outcome is the code of the family's ending, and each family's ending has its own lemma. -/
theorem eachFamilyRaisesOnlyItsOwnOutcomes : Obligations.EachFamilyRaisesOnlyItsOwnOutcomes := by
  intro i s t c hexec hresponse
  obtain rfl := eq_finish_of_exec hexec
  rw [response_finish, Option.some_inj, Response.outcome.injEq] at hresponse
  subst hresponse
  have hlegal := legalPair_parts i
  simp only [Instr.endingOf, Instr.sources, Instr.stem, Instr.format]
  generalize i.parts = p at hlegal ⊢
  obtain ⟨stem, F | G, rd, rs1, rs2, rs3, rs4⟩ := p
  · cases stem with
    | bitcount => rfl
    | revbits => rfl
    | ispow2 => rfl
    | log2floor =>
      simp only [Stem.shape, List.map_cons, List.map_nil, Ending.of1]
      split
      · exact code_logEnding_intDomain F _ _
      · exact code_logEnding_intDomain F _ _
    | log2ceil =>
      simp only [Stem.shape, List.map_cons, List.map_nil, Ending.of1]
      split
      · exact code_logEnding_intDomain F _ _
      · exact code_logEnding_intDomain F _ _
    | modmul => exact code_guardModulus _ _
    | modpow => exact code_guardModulus_residueEnding _ F _
    | modpowm => exact code_guardModulus_residueEnding _ F _
    | modinv => exact code_guardModulus_residueEnding _ F _
  · cases stem with
    | ispow2 => rfl
    | log2floor => exact code_logEnding_floatDomain G _ _
    | log2ceil => exact code_logEnding_floatDomain G _ _
    | _ => cases hlegal

/-! ## The operands of a command count by their low `W` bits alone (R5, R22) -/

section

variable {F : IntFormat} {G : FloatFormat} {a b : Word}

theorem intDomain_congr (h : pat F.width a = pat F.width b) : intDomain F a = intDomain F b := by
  rw [intDomain, value_congr F h, intDomain]

theorem bitcount_congr (h : pat F.width a = pat F.width b) : bitcount F a = bitcount F b := by
  rw [bitcount, h, bitcount]

theorem revbits_congr (h : pat F.width a = pat F.width b) : revbits F a = revbits F b := by
  rw [revbits, h, revbits]

theorem ispow2Int_congr (h : pat F.width a = pat F.width b) : ispow2Int F a = ispow2Int F b := by
  rw [ispow2Int, value_congr F h, ispow2Int]

theorem ispow2Float_congr (h : pat G.width a = pat G.width b) : ispow2Float G a = ispow2Float G b := by
  rw [ispow2Float, decompose_congr G h, ispow2Float]

/-- The two counters of LOG2FLOOR, the one for 128 bits included, see the same pattern. -/
theorem log2floorInt_congr (h : pat F.width a = pat F.width b) :
    (if F.width = 128 then log2floorInt128 F else log2floorInt F) a =
      (if F.width = 128 then log2floorInt128 F else log2floorInt F) b := by
  split
  · next hF =>
    rw [log2floorInt128, log2floorInt128, intDomain_congr h]
    rw [hF] at h
    rw [h]
  · rw [log2floorInt, log2floorInt, intDomain_congr h, h]

theorem log2ceilInt_congr (h : pat F.width a = pat F.width b) :
    (if F.width = 128 then log2ceilInt128 F else log2ceilInt F) a =
      (if F.width = 128 then log2ceilInt128 F else log2ceilInt F) b := by
  split
  · rw [log2ceilInt128, log2ceilInt128, intDomain_congr h, value_congr F h]
  · rw [log2ceilInt, log2ceilInt, intDomain_congr h, value_congr F h]

theorem log2floorFloat_congr (h : pat G.width a = pat G.width b) : log2floorFloat G a = log2floorFloat G b := by
  rw [log2floorFloat, decompose_congr G h, log2floorFloat]

theorem log2ceilFloat_congr (h : pat G.width a = pat G.width b) : log2ceilFloat G a = log2ceilFloat G b := by
  rw [log2ceilFloat, decompose_congr G h, log2ceilFloat]

end

section

variable {F : IntFormat} {md md' a a' b b' k k' : Word}

theorem modulus_congr (h : pat F.width md = pat F.width md') : modulus F md = modulus F md' := by
  rw [modulus, value_congr F h, modulus]

theorem modmul_congr (hmd : pat F.width md = pat F.width md') (ha : pat F.width a = pat F.width a')
    (hb : pat F.width b = pat F.width b') : modmul F md a b = modmul F md' a' b' := by
  rw [modmul, modulus_congr hmd, value_congr F ha, value_congr F hb, modmul]

theorem modinv_congr (hmd : pat F.width md = pat F.width md') (ha : pat F.width a = pat F.width a') :
    modinv F md a = modinv F md' a' := by
  rw [modinv, modulus_congr hmd, value_congr F ha, modinv]

theorem modpow_congr (hmd : pat F.width md = pat F.width md') (ha : pat F.width a = pat F.width a')
    (hb : pat F.width b = pat F.width b') : modpow F md a b = modpow F md' a' b' := by
  rw [modpow, modulus_congr hmd, value_congr F ha, value_congr F hb, modpow]

theorem modpowm_congr (hmd : pat F.width md = pat F.width md') (ha : pat F.width a = pat F.width a')
    (hb : pat F.width b = pat F.width b') (hk : pat F.width k = pat F.width k') :
    modpowm F md a b k = modpowm F md' a' b' k' := by
  rw [modpowm, modulus_congr hmd, value_congr F ha, value_congr F hb, value_congr F hk, modpowm]

end

/-- Two readings of the registers that agree on the low `W` bits of a command's sources give it one ending. -/
theorem endingOf_congr (i : Instr) {f g : Reg → Word}
    (h : ∀ r ∈ i.sources, pat i.format.width (f r) = pat i.format.width (g r)) :
    Instr.endingOf i (i.sources.map f) = Instr.endingOf i (i.sources.map g) := by
  simp only [Instr.endingOf, Instr.sources, Instr.stem, Instr.format] at h ⊢
  generalize i.parts = p at h ⊢
  obtain ⟨stem, F | G, rd, rs1, rs2, rs3, rs4⟩ := p
  · cases stem <;>
      simp only [Stem.shape, List.mem_cons, List.not_mem_nil, or_false, forall_eq_or_imp, forall_eq] at h
    case bitcount => exact bitcount_congr h
    case revbits => exact revbits_congr h
    case ispow2 => exact ispow2Int_congr h
    case log2floor => exact log2floorInt_congr h
    case log2ceil => exact log2ceilInt_congr h
    case modmul =>
      obtain ⟨h1, h2, h3⟩ := h
      exact modmul_congr h1 h2 h3
    case modpow =>
      obtain ⟨h1, h2, h3⟩ := h
      exact modpow_congr h1 h2 h3
    case modpowm =>
      obtain ⟨h1, h2, h3, h4⟩ := h
      exact modpowm_congr h1 h2 h3 h4
    case modinv =>
      obtain ⟨h1, h2⟩ := h
      exact modinv_congr h1 h2
  · cases stem with
    | ispow2 => exact ispow2Float_congr (h rs1 (List.mem_singleton_self rs1))
    | log2floor => exact log2floorFloat_congr (h rs1 (List.mem_singleton_self rs1))
    | log2ceil => exact log2ceilFloat_congr (h rs1 (List.mem_singleton_self rs1))
    | _ => rfl

/-- The content of RD after an ending that is OK is the result, whatever the state. -/
theorem finish_regs_of_ok (s s' : State) (rd : Reg) {e : Ending} (h : e.code = .ok) :
    (s.finish rd e).regs[rd] = (s'.finish rd e).regs[rd] := by
  cases e with
  | ok v => simp [State.finish]
  | domain d => exact absurd h d.code_ne_ok
  | fatal => cases h

/-- Settles O22: the ending is the same, and the response and the content of RD are the ending's. -/
theorem outcomeDependsOnSourceBitsAlone : Obligations.OutcomeDependsOnSourceBitsAlone := by
  intro i s s' t t' hsources hexec hexec'
  obtain rfl := eq_finish_of_exec hexec
  obtain rfl := eq_finish_of_exec hexec'
  rw [endingOf_congr i hsources]
  generalize Instr.endingOf i (i.sources.map s'.operand) = e
  refine ⟨by rw [response_finish, response_finish], fun hok => finish_regs_of_ok s s' i.rd ?_⟩
  rwa [response_finish, Option.some_inj, Response.outcome.injEq] at hok


end Sys2Proof.Machine

/-! # Proofs: the value of an operand, the fields of a float, the leading-zero counter, the masks (R10, R24, R101, R121,
R140) -/

namespace Sys2Proof.Machine

/-! ## Values and images (R10, R24) -/

/-- Settles O23: an unsigned value is the pattern as a number, a signed one is two's complement, whose sign is the top bit
of the pattern. -/
theorem valueIsUnsignedOrTwosComplement : Obligations.ValueIsUnsignedOrTwosComplement := by
  intro F p
  cases hs : F.signed with
  | false => simp [value_unsigned hs]
  | true =>
    have hmsb : (pat F.width p).msb = p.getLsbD (F.width - 1) := by
      have hpos := IntFormat.width_pos F
      rw [BitVec.msb_eq_getLsbD_last, pat, BitVec.getLsbD_setWidth, decide_eq_true (by omega), Bool.true_and]
    rw [value_signed hs, BitVec.toInt_eq_msb_cond, hmsb, toNat_pat]
    simp

/-- Settles O24: 32 bits hold the number, and extending the sign keeps a pattern's two's complement number. -/
theorem logarithmImageIsTheNumberSignExtended : Obligations.LogarithmImageIsTheNumberSignExtended := by
  intro n hlow hhigh
  rw [logResult, BitVec.toInt_signExtend_of_le (by omega), enc, BitVec.toInt_ofInt]
  exact Int.bmod_eq_of_le (by omega) (by omega)

/-! ## The decomposer (R121) -/

section

variable (F : FloatFormat) (p : Word)

/-- The sign bit stands above the exponent field, and that above the mantissa field (R7, R120). -/
theorem FloatFormat.width_eq : F.width = F.mb + F.eb + 1 := by
  cases F <;> rfl

theorem decompose_m : (decompose F p).m = (pat F.width p).toNat % 2 ^ F.mb := by
  simp [decompose]

theorem decompose_e : (decompose F p).e = (pat F.width p).toNat / 2 ^ F.mb % 2 ^ F.eb := by
  simp [decompose, Nat.shiftRight_eq_div_pow]

theorem decompose_s_toNat : (decompose F p).s.toNat = (pat F.width p).toNat / 2 ^ (F.width - 1) := by
  have hlt : (pat F.width p).toNat / 2 ^ (F.width - 1) < 2 := by
    rw [Nat.div_lt_iff_lt_mul (Nat.two_pow_pos _), ← Nat.pow_succ', Nat.succ_eq_add_one,
      Nat.sub_add_cancel (by rw [FloatFormat.width_eq]; omega)]
    exact (pat F.width p).isLt
  rw [decompose, BitVec.getLsbD, Nat.toNat_testBit, Nat.mod_eq_of_lt hlt]

theorem decompose_m_lt : (decompose F p).m < 2 ^ F.mb := by
  rw [decompose_m]
  exact Nat.mod_lt _ (Nat.two_pow_pos _)

theorem decompose_e_le : (decompose F p).e ≤ F.emax := by
  rw [decompose_e, FloatFormat.emax]
  exact Nat.le_sub_one_of_lt (Nat.mod_lt _ (Nat.two_pow_pos _))

end

/-- Settles O25: the pattern is its low `MB + EB` bits and the top bit, and the low bits are the two fields. -/
theorem floatFieldsPutTogetherAreThePattern : Obligations.FloatFieldsPutTogetherAreThePattern := by
  intro F p
  refine ⟨decompose_m_lt F p, decompose_e_le F p, ?_⟩
  have hlow : F.width - 1 = F.mb + F.eb := by rw [FloatFormat.width_eq, Nat.add_sub_cancel]
  rw [decompose_s_toNat, decompose_m, decompose_e, hlow, ← Nat.mod_mul, ← Nat.pow_add, Nat.mod_add_div]

/-! ## The leading-zero counter (R140) -/

/-- A bit at or above a number's length is 0 (R13). -/
theorem getLsbD_of_bitlen_le {W k : Nat} {p : BitVec W} (h : bitlen p.toNat ≤ k) : p.getLsbD k = false :=
  Nat.testBit_lt_two_pow ((bitlen_le_iff _ _).mp h)

/-- The bit just below a number's length is 1. -/
theorem getLsbD_bitlen_sub_one {W : Nat} {p : BitVec W} (h : p.toNat ≠ 0) :
    p.getLsbD (bitlen p.toNat - 1) = true := by
  rw [bitlen, if_neg h, Nat.add_sub_cancel]
  exact Nat.testBit_log2 h

/-- Settles O27: the count and the length of the pattern make up the width, so the places of R140 are those at and above
the highest 1 bit. -/
theorem clzCountsTheZerosAboveTheHighestOne : Obligations.ClzCountsTheZerosAboveTheHighestOne := by
  refine ⟨fun W p hp => ?nonzero, fun W => ?zero⟩
  case nonzero =>
    have hne : p.toNat ≠ 0 := fun h => hp (BitVec.eq_of_toNat_eq h)
    have hlen := bitlen_pos (Nat.pos_of_ne_zero hne)
    have hsum := clz_add_bitlen p
    refine ⟨by omega, ?_, fun k hk => getLsbD_of_bitlen_le (by omega), by omega⟩
    rw [show W - 1 - clz p = bitlen p.toNat - 1 by omega]
    exact getLsbD_bitlen_sub_one hne
  case zero => exact clz_add_bitlen (0 : BitVec W)

/-! ## The masks (R101) -/

/-- The mask of the last stage is the low half of the pattern (R100). -/
theorem mask_last_stage (N : Nat) : mask (2 * N) N = BitVec.ofNat (2 * N) (2 ^ N - 1) := by
  apply BitVec.eq_of_getLsbD_eq
  intro i hi
  rw [getLsbD_mask, BitVec.getLsbD_ofNat, Nat.testBit_two_pow_sub_one, Nat.mod_eq_of_lt hi]

/-- Settles O29: the masks of R100, evaluated at each stage of the five widths. -/
theorem maskConstantsAreTheTables : Obligations.MaskConstantsAreTheTables :=
  ⟨rfl, rfl, rfl,
    rfl, rfl, rfl, rfl,
    rfl, rfl, rfl, rfl, rfl,
    rfl, rfl, rfl, rfl, rfl, rfl,
    rfl, rfl, rfl, rfl, rfl, rfl, mask_last_stage 64⟩

end Sys2Proof.Machine

/-! # Proofs: BITCOUNT, REVBITS and ISPOW2 of an integer complete (R102, R104, R124) -/

namespace Sys2Proof.Machine

/-- Settles O30: the popcount tree counts the 1 bits, and the word is that of the row. -/
theorem bitcountWritesTheNumberOfSetBits : Obligations.BitcountWritesTheNumberOfSetBits := by
  intro F rd rs1 s
  refine ⟨exec_bitcountInt F rd rs1 s, ?_⟩
  rw [toNat_encode, parts_bitcountInt]
  rfl

/-- Settles O32: the swap network reverses the pattern, and a pattern result has nothing above the width. -/
theorem revbitsReversesTheBitOrder : Obligations.RevbitsReversesTheBitOrder := by
  intro F rd rs1 s
  refine ⟨⟨_, exec_revbitsInt F rd rs1 s, fun i hi => ?reversed, fun i hi => ?above⟩, ?word⟩
  case reversed =>
    have hle := IntFormat.width_le F
    rw [patternResult, BitVec.getLsbD_setWidth, decide_eq_true (by omega), Bool.true_and, BitVec.getLsbD_reverse,
      BitVec.getMsbD_eq_getLsbD, decide_eq_true hi, Bool.true_and, pat, BitVec.getLsbD_setWidth,
      decide_eq_true (by omega), Bool.true_and]
  case above => rw [patternResult, BitVec.getLsbD_setWidth, BitVec.getLsbD_of_ge _ _ hi, Bool.and_false]
  case word =>
    rw [toNat_encode, parts_revbitsInt]
    rfl

/-- ISPOW2 of an integer ends OK with its test of the value, from every state (R124). -/
theorem exec_ispow2Int (F : IntFormat) (rd rs1 : Reg) (s : State) :
    exec (.ispow2Int F rd rs1) s = .next (s.finishOk rd (booleanResult
      (decide (0 < value F (s.operand rs1)) && onebit (value F (s.operand rs1)).toNat))) := by
  cases F <;> rfl

/-- Settles O34: the number under the single-bit test is the value, when that is positive, and a power of two is. -/
theorem ispow2OfAnIntegerIsThePowerOfTwoTest : Obligations.Ispow2OfAnIntegerIsThePowerOfTwoTest := by
  intro F rd rs1 s
  refine ⟨⟨_, exec_ispow2Int F rd rs1 s, ?test⟩, ?word⟩
  case test =>
    rw [Bool.and_eq_true, decide_eq_true_iff, onebit_iff_exists_two_pow]
    constructor
    · rintro ⟨hpos, k, hk⟩
      exact ⟨k, by rw [← Int.toNat_of_nonneg hpos.le, hk]; push_cast; rfl⟩
    · rintro ⟨k, hk⟩
      have hcast : value F (s.operand rs1) = ((2 ^ k : Nat) : Int) := by rw [hk]; push_cast; rfl
      exact ⟨by rw [hk]; positivity, k, by rw [hcast, Int.toNat_natCast]⟩
  case word =>
    rw [toNat_encode, parts_ispow2Int]
    rfl

end Sys2Proof.Machine

/-! # Proofs: the logarithms of an integer complete, and their range (R141 to R147, R158) -/

namespace Sys2Proof.Machine

section

variable {F : IntFormat} {s : State} {rs1 : Reg}

theorem intDomain_of_nonpos {a : Word} (h : value F a ≤ 0) : intDomain F a = some .nonpos :=
  if_pos h

theorem exec_log2floorInt_of_nonpos (rd : Reg) (h : value F (s.operand rs1) ≤ 0) :
    exec (.log2floorInt F rd rs1) s = .next (s.raiseError .eNonpos) := by
  rw [exec_log2floorInt, intDomain_of_nonpos h]
  rfl

theorem exec_log2ceilInt_of_nonpos (rd : Reg) (h : value F (s.operand rs1) ≤ 0) :
    exec (.log2ceilInt F rd rs1) s = .next (s.raiseError .eNonpos) := by
  rw [exec_log2ceilInt, intDomain_of_nonpos h]
  rfl

end

/-- Settles O36: past the domain check the command writes `ilog2floor` of the value, which brackets it. -/
theorem log2floorOfAnIntegerIsTheFloor : Obligations.Log2floorOfAnIntegerIsTheFloor := by
  intro F rd rs1 s
  refine ⟨fun h => ?floor, exec_log2floorInt_of_nonpos rd, ?word⟩
  case floor =>
    refine ⟨_, exec_log2floorInt_of_pos rd h, ?_⟩
    obtain ⟨v, hv⟩ := Int.eq_ofNat_of_zero_le h.le
    rw [hv, Int.toNat_natCast]
    have hpos : 0 < v := by omega
    exact_mod_cast And.intro (two_pow_ilog2floor_le hpos) (lt_two_pow_ilog2floor_add_one hpos)
  case word =>
    rw [toNat_encode, parts_log2floorInt]
    rfl

/-- Settles O37: past the domain check the command writes `ilog2ceil` of the value, the least exponent that reaches it. -/
theorem log2ceilOfAnIntegerIsTheCeiling : Obligations.Log2ceilOfAnIntegerIsTheCeiling := by
  intro F rd rs1 s
  refine ⟨fun h => ?ceil, exec_log2ceilInt_of_nonpos rd, ?word⟩
  case ceil =>
    refine ⟨_, exec_log2ceilInt_of_pos rd h, ?_⟩
    obtain ⟨v, hv⟩ := Int.eq_ofNat_of_zero_le h.le
    rw [hv, Int.toNat_natCast]
    have hpos : 0 < v := by omega
    refine ⟨by exact_mod_cast le_two_pow_ilog2ceil hpos, ?_⟩
    obtain rfl | hone := Nat.eq_or_lt_of_le (Nat.succ_le_of_lt hpos)
    · exact .inl rfl
    · exact .inr (by exact_mod_cast two_pow_ilog2ceil_sub_one_lt hone)
  case word =>
    rw [toNat_encode, parts_log2ceilInt]
    rfl

/-- The number of bits below the sign of a format: every value is less than two to it (R10). -/
def magnitudeBits (F : IntFormat) : Nat :=
  F.width - if F.signed then 1 else 0

theorem value_lt (F : IntFormat) (a : Word) : value F a < 2 ^ magnitudeBits F := by
  obtain ⟨-, h⟩ := value_bounds F a
  unfold magnitudeBits
  cases hs : F.signed with
  | false => simpa [hs] using h
  | true => simpa [hs] using h

theorem toNat_value_lt (F : IntFormat) (a : Word) : (value F a).toNat < 2 ^ magnitudeBits F :=
  (Int.toNat_lt' (Nat.two_pow_pos _)).mpr (by exact_mod_cast value_lt F a)

/-- Settles O42: a positive value is less than two to the magnitude bits of its format, so its floor is less than their
number and its ceiling at most it. -/
theorem integerLogarithmsAreInRange : Obligations.IntegerLogarithmsAreInRange := by
  intro F rd rs1 s h
  refine ⟨_, _, exec_log2floorInt_of_pos rd h, exec_log2ceilInt_of_pos rd h, ?_⟩
  have hlt := toNat_value_lt F (s.operand rs1)
  have hpos : 0 < (value F (s.operand rs1)).toNat := by omega
  generalize (value F (s.operand rs1)).toNat = v at hlt hpos
  have hceil : ilog2ceil v ≤ magnitudeBits F := (ilog2ceil_le_iff hpos _).mpr hlt.le
  have hfloor : ilog2floor v < magnitudeBits F := by
    rw [← not_le, le_ilog2floor_iff hpos]
    omega
  have hwidth := IntFormat.width_pos F
  unfold magnitudeBits at hceil hfloor
  cases hs : F.signed with
  | false =>
    simp only [hs, Bool.false_eq_true, if_false] at hceil hfloor ⊢
    omega
  | true =>
    simp only [hs, if_true] at hceil hfloor ⊢
    omega

end Sys2Proof.Machine

/-! # Proofs: ISPOW2 and the logarithms of a float (R122, R125, R126, R150, R151, R153, R155, R158) -/

namespace Sys2Proof.Machine

open Sys2Proof.Safety

/-! ## A positive number as a whole number times a power of two (R122) -/

/-- The significand as a whole number: the mantissa field, with the hidden bit above it for a normal number. -/
def FloatParts.significand (F : FloatFormat) (d : FloatParts) : Nat :=
  if d.e = 0 then d.m else 2 ^ F.mb + d.m

/-- The exponent that goes with the significand; a subnormal number has that of the exponent field 1. -/
def FloatParts.scale (F : FloatFormat) (d : FloatParts) : Int :=
  (if d.e = 0 then 1 else (d.e : Int)) - F.bias - F.mb

section

variable {F : FloatFormat} {d : FloatParts}

theorem realValue_eq (hs : d.s = false) : realValue F d = (d.significand F : ℚ) * 2 ^ d.scale F := by
  unfold realValue FloatParts.significand FloatParts.scale
  by_cases h0 : d.e = 0
  · simp [hs, h0]
  · simp [hs, h0]

theorem significand_pos (h : d.e = 0 → d.m ≠ 0) : 0 < d.significand F := by
  unfold FloatParts.significand
  split
  · next h0 => exact Nat.pos_of_ne_zero (h h0)
  · positivity

end

/-! ## The logarithms of the significand of a normal number (R151, R153) -/

section

variable {k m : Nat}

theorem ilog2floor_two_pow_add (hm : m < 2 ^ k) : ilog2floor (2 ^ k + m) = k := by
  refine eq_of_forall_le_iff fun j => ?_
  rw [le_ilog2floor_iff (by positivity)]
  constructor
  · intro h
    have : 2 ^ j < 2 ^ (k + 1) := by rw [Nat.pow_succ]; omega
    exact Nat.le_of_lt_succ ((Nat.pow_lt_pow_iff_right Nat.one_lt_two).mp this)
  · intro h
    exact (Nat.pow_le_pow_right Nat.two_pos h).trans (Nat.le_add_right _ _)

theorem exists_two_pow_add_iff (hm : m < 2 ^ k) : (∃ j : Nat, 2 ^ k + m = 2 ^ j) ↔ m = 0 := by
  constructor
  · rintro ⟨j, hj⟩
    have hfloor := ilog2floor_two_pow_add hm
    rw [hj, ilog2floor_two_pow] at hfloor
    subst hfloor
    omega
  · rintro rfl
    exact ⟨k, rfl⟩

theorem onebit_two_pow_add (hm : m < 2 ^ k) : onebit (2 ^ k + m) = (m == 0) := by
  rw [Bool.eq_iff_iff, onebit_iff_exists_two_pow, exists_two_pow_add_iff hm, beq_iff_eq]

theorem ilog2ceil_two_pow_add (hm : m < 2 ^ k) : ilog2ceil (2 ^ k + m) = k + if m ≠ 0 then 1 else 0 := by
  rw [ilog2ceil_eq_ite (by positivity), onebit_two_pow_add hm, ilog2floor_two_pow_add hm]
  by_cases h : m = 0 <;> simp [h]

end

/-! ## What the units compute, on the significand (R125, R151, R153) -/

section

variable {F : FloatFormat} {d : FloatParts}

theorem floatIsPow2_eq (hm : d.m < 2 ^ F.mb) (hs : d.s = false) (he : d.e ≠ F.emax) :
    floatIsPow2 F d = onebit (d.significand F) := by
  unfold floatIsPow2 FloatParts.significand
  rw [if_neg (by simp [hs, he])]
  split
  · rfl
  · rw [onebit_two_pow_add hm]

theorem floatLog2floor_eq (hm : d.m < 2 ^ F.mb) :
    floatLog2floor F d = ilog2floor (d.significand F) + d.scale F := by
  unfold floatLog2floor FloatParts.significand FloatParts.scale
  split
  · ring
  · rw [ilog2floor_two_pow_add hm]
    ring

theorem floatLog2ceil_eq (hm : d.m < 2 ^ F.mb) :
    floatLog2ceil F d = ilog2ceil (d.significand F) + d.scale F := by
  unfold floatLog2ceil FloatParts.significand FloatParts.scale
  split
  · ring
  · rw [ilog2ceil_two_pow_add hm]
    push_cast
    ring

end

/-! ## Powers of two of a rational number -/

/-- A factor that is a power of two only shifts the comparison with one. -/
theorem two_zpow_add_le_iff (x : ℚ) (n c : ℤ) : (2 : ℚ) ^ (n + c) ≤ x * 2 ^ c ↔ (2 : ℚ) ^ n ≤ x := by
  rw [zpow_add₀ two_ne_zero]
  exact mul_le_mul_iff_of_pos_right (by positivity)

theorem le_two_zpow_add_iff (x : ℚ) (n c : ℤ) : x * 2 ^ c ≤ (2 : ℚ) ^ (n + c) ↔ x ≤ (2 : ℚ) ^ n := by
  rw [zpow_add₀ two_ne_zero]
  exact mul_le_mul_iff_of_pos_right (by positivity)

theorem mul_two_zpow_eq_iff (x : ℚ) (n c : ℤ) : x * 2 ^ c = (2 : ℚ) ^ (n + c) ↔ x = (2 : ℚ) ^ n := by
  rw [zpow_add₀ two_ne_zero]
  exact mul_left_inj' (by positivity)

/-- A whole number that is a power of two is one with a natural exponent. -/
theorem exists_natCast_eq_two_zpow_iff (n : Nat) : (∃ k : ℤ, (n : ℚ) = 2 ^ k) ↔ ∃ k : Nat, n = 2 ^ k := by
  constructor
  · rintro ⟨k, hk⟩
    have hone : (1 : ℚ) ≤ n := by
      have : (0 : ℚ) < n := hk ▸ by positivity
      exact_mod_cast this
    rw [hk, one_le_zpow_iff_right₀ one_lt_two] at hone
    obtain ⟨j, rfl⟩ := Int.eq_ofNat_of_zero_le hone
    exact ⟨j, by exact_mod_cast hk⟩
  · rintro ⟨k, rfl⟩
    exact ⟨k, by push_cast; rfl⟩

/-! ## ISPOW2 of a float (R125) -/

theorem realValue_nonpos {F : FloatFormat} {d : FloatParts} (hs : d.s = true) : realValue F d ≤ 0 := by
  unfold realValue
  rw [if_pos hs, neg_one_mul, neg_nonpos]
  split <;> positivity

/-- The three branches of R125 are the test of R122 on the real number. -/
theorem floatIsPow2_iff {F : FloatFormat} {d : FloatParts} (hm : d.m < 2 ^ F.mb) :
    floatIsPow2 F d = true ↔ d.e ≠ F.emax ∧ ∃ k : ℤ, realValue F d = 2 ^ k := by
  by_cases he : d.e = F.emax
  · simp [floatIsPow2, he]
  cases hs : d.s with
  | true =>
    have hnot : ¬∃ k : ℤ, realValue F d = 2 ^ k := by
      rintro ⟨k, hk⟩
      have hpos : (0 : ℚ) < 2 ^ k := by positivity
      exact absurd (realValue_nonpos (F := F) hs) (by rw [hk]; exact not_le.mpr hpos)
    simp [floatIsPow2, hs, hnot]
  | false =>
    rw [floatIsPow2_eq hm hs he, onebit_iff_exists_two_pow, ← exists_natCast_eq_two_zpow_iff, realValue_eq hs]
    simp only [he, ne_eq, not_false_eq_true, true_and]
    constructor
    · rintro ⟨k, hk⟩
      exact ⟨k + d.scale F, (mul_two_zpow_eq_iff _ _ _).mpr hk⟩
    · rintro ⟨k, hk⟩
      refine ⟨k - d.scale F, (mul_two_zpow_eq_iff _ _ (d.scale F)).mp ?_⟩
      rwa [sub_add_cancel]

theorem exec_ispow2Float (F : FloatFormat) (rd rs1 : Reg) (s : State) :
    exec (.ispow2Float F rd rs1) s =
      .next (s.finishOk rd (booleanResult (floatIsPow2 F (decompose F (s.operand rs1))))) := by
  cases F <;> rfl

/-- Settles O35: the fields of the pattern are those of a float, and on these the branches of R125 are the test of the
real number. -/
theorem ispow2OfAFloatIsThePowerOfTwoTest : Obligations.Ispow2OfAFloatIsThePowerOfTwoTest := by
  intro F rd rs1 s
  refine ⟨⟨_, exec_ispow2Float F rd rs1 s, floatIsPow2_iff (decompose_m_lt F _)⟩, ?_⟩
  rw [toNat_encode, parts_ispow2Float]
  cases F <;> rfl

/-! ## The logarithms of a float (R150, R151, R153) -/

theorem exec_log2floorFloat (F : FloatFormat) (rd rs1 : Reg) (s : State) :
    exec (.log2floorFloat F rd rs1) s = .next (s.finish rd (log2floorFloat F (s.operand rs1))) := by
  cases F <;> rfl

theorem exec_log2ceilFloat (F : FloatFormat) (rd rs1 : Reg) (s : State) :
    exec (.log2ceilFloat F rd rs1) s = .next (s.finish rd (log2ceilFloat F (s.operand rs1))) := by
  cases F <;> rfl

section

variable {F : FloatFormat} {s : State} {rs1 : Reg}

theorem exec_log2floorFloat_of_positiveFinite (rd : Reg) (h : PositiveFinite F (decompose F (s.operand rs1))) :
    exec (.log2floorFloat F rd rs1) s =
      .next (s.finishOk rd (logResult (floatLog2floor F (decompose F (s.operand rs1))))) := by
  rw [exec_log2floorFloat, log2floorFloat, (floatDomain_of_positiveFinite h).1, logEnding_none, State.finish]

theorem exec_log2ceilFloat_of_positiveFinite (rd : Reg) (h : PositiveFinite F (decompose F (s.operand rs1))) :
    exec (.log2ceilFloat F rd rs1) s =
      .next (s.finishOk rd (logResult (floatLog2ceil F (decompose F (s.operand rs1))))) := by
  rw [exec_log2ceilFloat, log2ceilFloat, (floatDomain_of_positiveFinite h).1, logEnding_none, State.finish]

/-- A logarithm of a float whose domain check fails ends with that error, the floor and the ceiling alike (R150). -/
theorem exec_logFloat_of_floatDomain (rd : Reg) {e : DomainError}
    (h : floatDomain F (decompose F (s.operand rs1)) = some e) :
    exec (.log2floorFloat F rd rs1) s = .next (s.raiseError e.code) ∧
      exec (.log2ceilFloat F rd rs1) s = .next (s.raiseError e.code) := by
  rw [exec_log2floorFloat, exec_log2ceilFloat, log2floorFloat, log2ceilFloat, h, logEnding_some, logEnding_some,
    State.finish]
  exact ⟨rfl, rfl⟩

end

section

variable {F : FloatFormat} {d : FloatParts}

/-- R151: the number lies between the powers of two at its floor and one above. -/
theorem floatLog2floor_bracket (hm : d.m < 2 ^ F.mb) (h : PositiveFinite F d) :
    (2 : ℚ) ^ floatLog2floor F d ≤ realValue F d ∧ realValue F d < 2 ^ (floatLog2floor F d + 1) := by
  obtain ⟨-, hs, -, hne⟩ := floatDomain_of_positiveFinite h
  have hpos := significand_pos (F := F) hne
  rw [floatLog2floor_eq hm, realValue_eq hs, add_right_comm, two_zpow_add_le_iff, ← not_le, two_zpow_add_le_iff, not_le]
  exact_mod_cast And.intro (two_pow_ilog2floor_le hpos) (lt_two_pow_ilog2floor_add_one hpos)

/-- R153: the number lies above the power of two one below its ceiling, and not above that at it. -/
theorem floatLog2ceil_bracket (hm : d.m < 2 ^ F.mb) (h : PositiveFinite F d) :
    (2 : ℚ) ^ (floatLog2ceil F d - 1) < realValue F d ∧ realValue F d ≤ 2 ^ floatLog2ceil F d := by
  obtain ⟨-, hs, -, hne⟩ := floatDomain_of_positiveFinite h
  have hpos := significand_pos (F := F) hne
  rw [floatLog2ceil_eq hm, realValue_eq hs, add_sub_right_comm, le_two_zpow_add_iff, ← not_le, le_two_zpow_add_iff,
    not_le]
  refine ⟨?_, by exact_mod_cast le_two_pow_ilog2ceil hpos⟩
  obtain hone | hone := Nat.eq_or_lt_of_le (Nat.succ_le_of_lt hpos)
  · rw [← hone]
    norm_num [ilog2ceil]
  · have hceil := ilog2ceil_pos hone
    rw [← Nat.cast_pred hceil]
    exact_mod_cast two_pow_ilog2ceil_sub_one_lt hone

end

/-- Settles O39: past the domain check the command writes the floor, which brackets the real number; the two other classes
fail the check with their error. -/
theorem log2floorOfAFloatIsTheFloor : Obligations.Log2floorOfAFloatIsTheFloor := by
  intro F rd rs1 s
  refine ⟨fun h => ⟨_, exec_log2floorFloat_of_positiveFinite rd h, floatLog2floor_bracket (decompose_m_lt F _) h⟩,
    fun h => (exec_logFloat_of_floatDomain rd (floatDomain_of_notAboveZero h)).1,
    fun h => (exec_logFloat_of_floatDomain rd (floatDomain_of_notFinite h)).1, ?_⟩
  rw [toNat_encode, parts_log2floorFloat]
  cases F <;> rfl

/-- Settles O40: past the domain check the command writes the ceiling, which brackets the real number; the two other
classes fail the check with their error. -/
theorem log2ceilOfAFloatIsTheCeiling : Obligations.Log2ceilOfAFloatIsTheCeiling := by
  intro F rd rs1 s
  refine ⟨fun h => ⟨_, exec_log2ceilFloat_of_positiveFinite rd h, floatLog2ceil_bracket (decompose_m_lt F _) h⟩,
    fun h => (exec_logFloat_of_floatDomain rd (floatDomain_of_notAboveZero h)).2,
    fun h => (exec_logFloat_of_floatDomain rd (floatDomain_of_notFinite h)).2, ?_⟩
  rw [toNat_encode, parts_log2ceilFloat]
  cases F <;> rfl

/-! ## The range of the logarithms of a float (R155, R158) -/

/-- The greatest exponent field of a finite number is twice the bias (R7). -/
theorem FloatFormat.emax_eq (F : FloatFormat) : F.emax = 2 * F.bias + 1 := by
  cases F <;> rfl

/-- Settles O43: the floor and the ceiling of a subnormal number are those of a mantissa field of `MB` bits, and those of
a normal number the exponent field, from 1 to twice the bias, less the bias. -/
theorem floatLogarithmsAreInRange : Obligations.FloatLogarithmsAreInRange := by
  intro F rd rs1 s h
  refine ⟨_, _, exec_log2floorFloat_of_positiveFinite rd h, exec_log2ceilFloat_of_positiveFinite rd h, ?_⟩
  obtain ⟨-, -, hmax, hne⟩ := floatDomain_of_positiveFinite h
  have hm := decompose_m_lt F (s.operand rs1)
  have he := decompose_e_le F (s.operand rs1)
  generalize decompose F (s.operand rs1) = d at hmax hne hm he ⊢
  rw [FloatFormat.emax_eq] at hmax he
  unfold floatLog2floor floatLog2ceil
  by_cases h0 : d.e = 0
  · have hpos := Nat.pos_of_ne_zero (hne h0)
    have hceil : ilog2ceil d.m ≤ F.mb := (ilog2ceil_le_iff hpos _).mpr hm.le
    have hfloor : ilog2floor d.m < F.mb := by
      rw [← not_le, le_ilog2floor_iff hpos]
      exact hm.not_ge
    simp only [if_pos h0]
    omega
  · simp only [if_neg h0]
    split <;> omega

/-- Settles O41: the two commands depend on the pattern alone, and their endings on this pattern are evaluated. -/
theorem greatestDoubleHasFloor1023AndCeiling1024 : Obligations.GreatestDoubleHasFloor1023AndCeiling1024 := by
  intro rd rs1 s h
  have hpat : pat FloatFormat.f64.width (s.operand rs1) = pat FloatFormat.f64.width 0x7FEFFFFFFFFFFFFF := h
  have hfloor : log2floorFloat .f64 (s.operand rs1) = .ok 1023 := (log2floorFloat_congr hpat).trans (by decide)
  have hceil : log2ceilFloat .f64 (s.operand rs1) = .ok 1024 := (log2ceilFloat_congr hpat).trans (by decide)
  refine ⟨(exec_log2floorFloat .f64 rd rs1 s).trans ?_, (exec_log2ceilFloat .f64 rd rs1 s).trans ?_⟩
  · rw [hfloor, State.finish]
  · rw [hceil, State.finish]

end Sys2Proof.Machine

/-! # Proofs: MODPOW and MODPOWM, MODMUL with the inverse, and the sign of the modulus (R170, R174, R182, R183) -/

namespace Sys2Proof.Machine

open Sys2Proof.Safety

/-! ## All that the engine answers (R180 to R184) -/

section

variable {W M : Nat} {b e k : Int}

/-- For an exponent that is not negative the engine answers the residue of the multiplied power. -/
theorem powmod_of_nonneg_eq (h : 0 ≤ e) (he : e.natAbs < 2 ^ W) :
    powmod W M b e k = some ((k * b ^ e.toNat) % M) := by
  rw [powmod_of_nonneg h, powReduce_eq W M b e.natAbs k he, show e.natAbs = e.toNat by omega]

/-- For a negative exponent and a coprime base it answers the residue that takes the power of the base back to the
multiplier: the power of the inverse times that of the base is 1. -/
theorem exists_powmod_of_neg (hM : 0 < M) (hW : M < 2 ^ W) (h : e < 0) (he : e.natAbs < 2 ^ W)
    (hgcd : Int.gcd b M = 1) :
    ∃ q : Int, 0 ≤ q ∧ q < M ∧ q * b ^ e.natAbs ≡ k [ZMOD M] ∧ powmod W M b e k = some q := by
  obtain ⟨b', hinv, -, -, hb⟩ := (inverse_spec W M b hM hW).1 hgcd
  have hb : b * b' ≡ 1 [ZMOD M] := hb
  refine ⟨(k * b' ^ e.natAbs) % M, Int.emod_nonneg _ (by omega), Int.emod_lt_of_pos _ (by omega), ?_, ?_⟩
  · calc (k * b' ^ e.natAbs) % M * b ^ e.natAbs
        ≡ k * b' ^ e.natAbs * b ^ e.natAbs [ZMOD M] := (Int.mod_modEq _ _).mul_right _
      _ = k * (b * b') ^ e.natAbs := by rw [mul_pow]; ring
      _ ≡ k * 1 ^ e.natAbs [ZMOD M] := (hb.pow _).mul_left _
      _ = k := by rw [one_pow, mul_one]
  · rw [powmod_of_neg_of_inverse_eq_some h hinv, powReduce_eq W M b' e.natAbs k he]

theorem powmod_of_neg_of_gcd_ne_one (hM : 0 < M) (hW : M < 2 ^ W) (h : e < 0) (hgcd : Int.gcd b M ≠ 1) :
    powmod W M b e k = none :=
  powmod_of_neg_of_inverse_eq_none h ((inverse_spec W M b hM hW).2 hgcd) k

end

/-! ## The commands (R182, R183) -/

/-- The engine's answer, ended as MODPOW and MODPOWM end it, is the residue of the multiplied power. -/
theorem powerResidue_guardModulus (F : IntFormat) (s : State) (rd : Reg) (md b e : Word) (k : Int) :
    PowerResidue s rd (value F md).natAbs (value F b) (value F e) k
      (.next (s.finish rd (guardModulus (modulus F md)
        (residueEnding F (powmod F.width (modulus F md) (value F b) (value F e) k))))) := by
  have hlt := modulus_lt F md
  have hfits {q : Int} (hq : q < modulus F md) : q < 2 ^ F.width := hq.trans (by exact_mod_cast hlt)
  have he := natAbs_value_lt F e
  change PowerResidue s rd (modulus F md) _ _ _ _
  generalize modulus F md = M at hlt hfits
  refine ⟨?fatal, ?power, ?inverse, ?noinv⟩
  case fatal =>
    rintro rfl
    rw [guardModulus_zero, State.finish]
  case power =>
    intro hM h
    have hM' : (M : Int) ≠ 0 := by omega
    rw [guardModulus_pos hM, powmod_of_nonneg_eq h he, residueEnding, State.finish,
      residueResult_eq F (Int.emod_nonneg _ hM') (hfits (Int.emod_lt_of_pos _ (by omega)))]
  case inverse =>
    intro hM h hgcd
    obtain ⟨q, h0, hq, hcong, hsome⟩ := exists_powmod_of_neg (k := k) hM hlt h he hgcd
    refine ⟨q, h0, hq, hcong, ?_⟩
    rw [guardModulus_pos hM, hsome, residueEnding, State.finish, residueResult_eq F h0 (hfits hq)]
  case noinv =>
    intro hM h hgcd
    rw [guardModulus_pos hM, powmod_of_neg_of_gcd_ne_one hM hlt h hgcd.ne', residueEnding, State.finish]
    rfl

/-- Settles O46: MODPOW is the engine with multiplier 1 behind the test of the modulus. -/
theorem modpowIsTheResidueOfThePower : Obligations.ModpowIsTheResidueOfThePower := by
  intro F rd r1 r2 r3 s
  refine ⟨?power, ?word⟩
  case power =>
    rw [exec_modpowInt]
    exact powerResidue_guardModulus F s rd _ _ _ 1
  case word =>
    rw [toNat_encode, parts_modpowInt]
    rfl

theorem modpowm_eq_modpow_of_value_eq_one {F : IntFormat} {k : Word} (hk : value F k = 1) (md b e : Word) :
    modpowm F md b e k = modpow F md b e := by
  rw [modpowm, hk, modpow]

/-- Settles O47: MODPOWM is the engine with its multiplier behind the test of the modulus, and with multiplier 1 that is
MODPOW. -/
theorem modpowmIsTheResidueOfTheMultipliedPower : Obligations.ModpowmIsTheResidueOfTheMultipliedPower := by
  intro F rd r1 r2 r3 r4 s
  refine ⟨?power, fun hk => ?one, ?word⟩
  case power =>
    rw [exec_modpowmInt]
    exact powerResidue_guardModulus F s rd _ _ _ _
  case one => rw [exec_modpowmInt, exec_modpowInt, modpowm_eq_modpow_of_value_eq_one hk]
  case word =>
    rw [toNat_encode, parts_modpowmInt]
    rfl

/-! ## MODMUL with the inverse (R174) -/

/-- The product of an inverse, read back in the format, and the number it is the inverse of is 1 modulo the modulus, and
so 0 when the modulus is 1. -/
theorem modmul_of_modinv_eq_ok {F : IntFormat} {md n x : Word} (h : modinv F md n = .ok x) :
    modmul F md x n = .ok (if |value F md| = 1 then 0 else 1) := by
  have hne := value_ne_zero_of_modinv_eq_ok h
  obtain ⟨-, -, hinv⟩ :=
    (inverse_eq_some_iff (modulus_pos hne) (modulus_lt F md)).mp (inverse_eq_some_value_of_modinv_eq_ok h)
  have hone : value F x * value F n % |value F md| = 1 % |value F md| := by
    rw [mul_comm, ← natCast_modulus]
    exact hinv
  rw [modmul_of_value_ne_zero hne, hone]
  have hpos := abs_pos.mpr hne
  split
  · next h1 => rw [h1]; rfl
  · next h1 => rw [Int.emod_eq_of_lt (by decide) (by omega)]; rfl

/-- Settles O51: the first command leaves both operands in their registers and the inverse in RD. The premises that the two
registers are written go unused: two `exec` with no step between read the same free value. -/
theorem modmulOfAnOperandAndItsInverseIsOne : Obligations.ModmulOfAnOperandAndItsInverseIsOne := by
  intro F rd rd' r1 r2 s t hr1 hr2 _ _ hne hgcd hexec
  rw [← gcd_modulus] at hgcd
  obtain ⟨q, -, -, -, hok⟩ := exists_modinv_eq_ok hne hgcd
  rw [exec_modinvInt_of_eq_ok hok] at hexec
  cases hexec
  rw [exec_modmulInt, operand_finishOk, operand_finishOk, operand_finishOk, if_neg hr1.symm, if_pos rfl,
    if_neg hr2.symm, modmul_of_modinv_eq_ok hok, State.finish]

/-! ## The sign of the modulus (R170) -/

/-- Settles O52: every ModArith command takes its modulus operand through its magnitude. -/
theorem modulusCountsByItsMagnitude : Obligations.ModulusCountsByItsMagnitude := by
  intro F md md' a b k h
  have hM : modulus F md' = modulus F md := by rw [modulus, h, Int.natAbs_neg, modulus]
  refine ⟨?modmul, ?modpow, ?modpowm, ?modinv⟩
  case modmul => rw [modmul, modmul, hM]
  case modpow => rw [modpow, modpow, hM]
  case modpowm => rw [modpowm, modpowm, hM]
  case modinv => rw [modinv, modinv, hM]

end Sys2Proof.Machine
